-- ==== Sys2Proof/Word.lean ====
section
/-! DEFINITION. The machine's units of data (00_scope.md R6: word 16 bits, byte 8 bits). -/

namespace Sys2Proof

/-- A nibble: a short GPR address, a condition code, a bit position (30_encoding.md R123). -/
abbrev Nib := BitVec 4

/-- A byte. -/
abbrev Byte := BitVec 8

/-- A word. -/
abbrev Word := BitVec 16

end Sys2Proof
end

