-- ==== Sys2Proof/Config.lean ====
section
/-! DEFINITION. What an implementation or a platform fixes (00_scope.md R3, R6, R7), as plain data that State
carries unchanged, and the free values: constants without a body, of which nothing can be proved. -/

namespace Sys2Proof

/-- The two device groups (00_scope.md R2, R3). -/
inductive Variant where
  /-- C161, C163, C164, C165, C167 devices: all instructions. -/
  | c167
  /-- SAB 8XC166(W) devices: no ATOMIC and EXTended instructions, no ESFR area. -/
  | sab8xc166
deriving DecidableEq, Repr

/-- HAS_EXT and HAS_ESFR (00_scope.md R6): the ATOMIC and EXTended instructions and the ESFR area exist. -/
def Variant.hasExt : Variant → Bool
  | .c167 => true
  | .sab8xc166 => false

/-- The CPU's own special function registers (10_state.md R44). -/
inductive CpuSfr where
  | dpp0 | dpp1 | dpp2 | dpp3 | csp | mdh | mdl | cp | sp | stkov | stkun
  | mdc | psw | syscon | zeros | ones | tfr
deriving DecidableEq, Repr

/-- What a range of physical addresses holds (20_memory.md R108). -/
inductive RegionKind where
  /-- Internal ROM: read only, code and data. -/
  | rom
  /-- Internal RAM. -/
  | ram
  /-- SFR or ESFR words: CPU registers by SFR_MAP, words of the platform, else undefined (R106). -/
  | sfr
  /-- External memory, readable and writable. -/
  | external
  /-- Nothing: every access is refused. -/
  | unmapped
deriving DecidableEq, Repr

/-- One range of MEM_MAP, both ends included (20_memory.md R108). -/
structure Region where
  first : Nat
  last : Nat
  kind : RegionKind
deriving DecidableEq, Repr

/-- An SFR or ESFR word that the platform adds (60_exceptions.md R460). -/
inductive DeviceKind where
  /-- A word of storage: it reads as what was written last. -/
  | storage
  /-- A word with a read and a write function of its own: `Config.deviceRead` and `Config.deviceWrite`. -/
  | functions
deriving DecidableEq, Repr

/-- RESET_STATE (70_reset_and_hazards.md R470): the reset values that the source does not give.
`psw` is in the bit order of 10_state.md R33; its five flags are 0 whatever it says here (R55, stated). -/
structure ResetState where
  ip : Word
  csp : Byte
  psw : Word
  sp : Word
  cp : Word
  stkov : Word
  stkun : Word
  mdl : Word
  mdh : Word
  mdc : Word
  syscon : Word
  tfr : Word
  wdt : Word
deriving DecidableEq, Repr

/-- The trap numbers of TRAP_VECTORS (60_exceptions.md R424). -/
structure TrapVectors where
  nmi : BitVec 7
  undefinedOpcode : BitVec 7
  protectionFault : BitVec 7
  illegalWordOperand : BitVec 7
  illegalInstruction : BitVec 7
deriving DecidableEq, Repr

/-- SDIV, the signed quotient function (40_arithmetic.md R210). -/
inductive SignedDivision where
  /-- The default of D12: the quotient truncates toward zero. -/
  | truncating
  /-- Another function, of which nothing is known: `Config.otherQuotient`. -/
  | other
deriving DecidableEq, Repr

/-- The configuration of one machine (00_scope.md R3, R7). Nothing changes it while the machine runs. -/
structure Config where
  /-- VARIANT (R3). -/
  variant : Variant
  /-- SFR_MAP: the even physical address of each CPU register, which MEM_MAP must call an SFR (10_state.md R44). -/
  sfrMap : List (Nat × CpuSfr)
  /-- SFR_MAP's bit layout of PSW (R7, D20): entry k is the place, in the word that a program reads and writes, of the bit
  that 10_state.md R33 numbers k. -/
  pswPlaces : List Nat
  /-- SFR_MAP's bit layout of SYSCON (R7, D20): the place of SGTDIS (10_state.md R42). -/
  sgtdisPlace : Nat
  /-- The SFR and ESFR words that the platform adds, by even address (60_exceptions.md R460, 20_memory.md R106). -/
  platformSfrs : List (Nat × DeviceKind)
  /-- MEM_MAP: the first region that holds an address decides; an address in none is unmapped (20_memory.md R108). -/
  memMap : List Region
  /-- RESET_STATE (70_reset_and_hazards.md R470). -/
  resetState : ResetState
  /-- HW_TRAP_ENTRY: hardware traps enter their routine instead of ending the run (60_exceptions.md R436). -/
  hwTrapEntry : Bool
  /-- TRAP_VECTORS (60_exceptions.md R424). -/
  trapVectors : TrapVectors
  /-- WDT_PRESET, the byte SRVWDT reloads (47_system_control.md R394). -/
  wdtPreset : Byte
  /-- SDIV (40_arithmetic.md R210). -/
  sdiv : SignedDivision
  /-- subcb_z_chained (40_arithmetic.md R207). -/
  subcbZChained : Bool
deriving DecidableEq, Repr

/-- The n-th free word: the value of a result that the spec leaves open (40_arithmetic.md R220, 20_memory.md R96). -/
opaque Config.freeWord : Nat → Word

/-- The n-th free bit: a flag, or the choice between two orders, that the spec leaves open
(40_arithmetic.md R220, 20_memory.md R96). -/
opaque Config.freeBit : Nat → Bool

/-- The signed quotient of a machine whose SDIV is not the truncating one: a function of dividend and divisor of which
nothing is known (40_arithmetic.md R210, D12). -/
opaque Config.otherQuotient : Int → Int → Int

/-- The byte that an address holds which nothing has written since power-on (20_memory.md R107;
93_implementation_defined.md U13, any value; log 4). -/
opaque Config.powerOnByte : Nat → Byte

/-- The read function of a platform device: what a read of the device's address answers while it holds a given word
(60_exceptions.md R460; log 31). -/
opaque Config.deviceRead : Nat → Word → Word

/-- The write function of a platform device: the word that the device at an address holds after a value was written to it,
from the word it held (60_exceptions.md R460; log 31). -/
opaque Config.deviceWrite : Nat → Word → Word → Word

/-- The default SFR_MAP: the table of 10_state.md R44. PRESUMED (the family's layout; log 2), unsafe. -/
def SfrMap.default : List (Nat × CpuSfr) :=
  [(0xFE00, .dpp0), (0xFE02, .dpp1), (0xFE04, .dpp2), (0xFE06, .dpp3), (0xFE08, .csp),
   (0xFE0C, .mdh), (0xFE0E, .mdl), (0xFE10, .cp), (0xFE12, .sp), (0xFE14, .stkov), (0xFE16, .stkun),
   (0xFF0E, .mdc), (0xFF10, .psw), (0xFF12, .syscon), (0xFF1C, .zeros), (0xFF1E, .ones), (0xFFAC, .tfr)]

/-- The default bit layout of PSW: the order of 10_state.md R33. PRESUMED (the family's layout; log 2), unsafe. -/
def PswPlaces.default : List Nat := List.range 16

/-- The default place of SGTDIS: SYSCON bit 11 (10_state.md R42). PRESUMED (the family's layout; log 2), unsafe. -/
def SgtdisPlace.default : Nat := 11

/-- The default MEM_MAP: the SFR area at 00'FE00H..00'FFDFH and, on the C167 group, the ESFR area at 00'F000H..00'F1DFH
(20_memory.md R61); internal RAM at 00'F600H..00'FDFFH and external memory everywhere else, a DESIGN CHOICE (log 5),
unsafe. -/
def MemMap.default (v : Variant) : List Region :=
  (if v.hasExt then [⟨0x000000, 0x00EFFF, .external⟩, ⟨0x00F000, 0x00F1DF, .sfr⟩, ⟨0x00F1E0, 0x00F5FF, .external⟩]
    else [⟨0x000000, 0x00F5FF, .external⟩]) ++
  [⟨0x00F600, 0x00FDFF, .ram⟩, ⟨0x00FE00, 0x00FFDF, .sfr⟩, ⟨0x00FFE0, 0xFFFFFF, .external⟩]

/-- The default RESET_STATE: the family's reset values (10_state.md R55). PRESUMED (log 3), unsafe;
SYSCON's bits other than SGTDIS are a DESIGN CHOICE. -/
def ResetState.default : ResetState :=
  { ip := 0, csp := 0, psw := 0, sp := 0xFC00, cp := 0xFC00, stkov := 0xFA00, stkun := 0xFC00,
    mdl := 0, mdh := 0, mdc := 0, syscon := 0, tfr := 0, wdt := 0 }

/-- The default TRAP_VECTORS: the table of 60_exceptions.md R424. PRESUMED (log 6), unsafe. -/
def TrapVectors.default : TrapVectors :=
  { nmi := 0x02, undefinedOpcode := 0x0A, protectionFault := 0x0A, illegalWordOperand := 0x0A,
    illegalInstruction := 0x0A }

/-- A device group with every other parameter at the default that 92_eei_decisions.md names for it. -/
def Config.ofVariant (v : Variant) : Config :=
  { variant := v, sfrMap := SfrMap.default, pswPlaces := PswPlaces.default, sgtdisPlace := SgtdisPlace.default,
    platformSfrs := [], memMap := MemMap.default v, resetState := ResetState.default, hwTrapEntry := false,
    trapVectors := TrapVectors.default, wdtPreset := 0, sdiv := .truncating, subcbZChained := false }

/-- The configuration with every parameter at its default, the C167 group among them (D1; log 1). -/
def Config.default : Config := Config.ofVariant .c167

end Sys2Proof
end

