-- ==== Sys2Proof/Syntax.lean ====
section
/-! DEFINITION. The instructions (30_encoding.md R130): one constructor per addressing form of each mnemonic, its
fields the operands in the order of the assembler syntax (R160), each of the exact width that its format gives it (R124). -/

namespace Sys2Proof

/-- The 230 instruction forms of the 84 mnemonics (30_encoding.md R130). `n`, `m` are the GPR numbers of `Rwn`/`Rbn`,
`Rwm`/`Rbm`; `i` the number of `Rwi`; `bitoff`/`pos` a bit operand's word and position, `dst`/`dpos` and `src`/`spos`
those of a destination and a source bit; `irang2` the encoded range, one less than its length (20_memory.md R95). -/
inductive Instr where
  /-- ADD Rwn, Rwm: `00 nm`, 40_arithmetic.md R200. -/
  | addRwRw (n m : Nib)
  /-- ADD Rwn, [Rwi]: `08 n:10ii`, 40_arithmetic.md R200. -/
  | addRwInd (n : Nib) (i : BitVec 2)
  /-- ADD Rwn, [Rwi+]: `08 n:11ii`, 40_arithmetic.md R200. -/
  | addRwIndInc (n : Nib) (i : BitVec 2)
  /-- ADD Rwn, #data3: `08 n:0ddd`, 40_arithmetic.md R200. -/
  | addRwData3 (n : Nib) (data3 : BitVec 3)
  /-- ADD reg, #data16: `06 RR dd dd`, 40_arithmetic.md R200. -/
  | addRegData16 (reg : Byte) (data16 : Word)
  /-- ADD reg, mem: `02 RR MM MM`, 40_arithmetic.md R200. -/
  | addRegMem (reg : Byte) (mem : Word)
  /-- ADD mem, reg: `04 RR MM MM`, 40_arithmetic.md R200. -/
  | addMemReg (mem : Word) (reg : Byte)
  /-- ADDB Rbn, Rbm: `01 nm`, 40_arithmetic.md R201. -/
  | addbRbRb (n m : Nib)
  /-- ADDB Rbn, [Rwi]: `09 n:10ii`, 40_arithmetic.md R201. -/
  | addbRbInd (n : Nib) (i : BitVec 2)
  /-- ADDB Rbn, [Rwi+]: `09 n:11ii`, 40_arithmetic.md R201. -/
  | addbRbIndInc (n : Nib) (i : BitVec 2)
  /-- ADDB Rbn, #data3: `09 n:0ddd`, 40_arithmetic.md R201. -/
  | addbRbData3 (n : Nib) (data3 : BitVec 3)
  /-- ADDB reg, #data8: `07 RR dd xx`, 40_arithmetic.md R201. -/
  | addbRegData8 (reg data8 : Byte)
  /-- ADDB reg, mem: `03 RR MM MM`, 40_arithmetic.md R201. -/
  | addbRegMem (reg : Byte) (mem : Word)
  /-- ADDB mem, reg: `05 RR MM MM`, 40_arithmetic.md R201. -/
  | addbMemReg (mem : Word) (reg : Byte)
  /-- ADDC Rwn, Rwm: `10 nm`, 40_arithmetic.md R202. -/
  | addcRwRw (n m : Nib)
  /-- ADDC Rwn, [Rwi]: `18 n:10ii`, 40_arithmetic.md R202. -/
  | addcRwInd (n : Nib) (i : BitVec 2)
  /-- ADDC Rwn, [Rwi+]: `18 n:11ii`, 40_arithmetic.md R202. -/
  | addcRwIndInc (n : Nib) (i : BitVec 2)
  /-- ADDC Rwn, #data3: `18 n:0ddd`, 40_arithmetic.md R202. -/
  | addcRwData3 (n : Nib) (data3 : BitVec 3)
  /-- ADDC reg, #data16: `16 RR dd dd`, 40_arithmetic.md R202. -/
  | addcRegData16 (reg : Byte) (data16 : Word)
  /-- ADDC reg, mem: `12 RR MM MM`, 40_arithmetic.md R202. -/
  | addcRegMem (reg : Byte) (mem : Word)
  /-- ADDC mem, reg: `14 RR MM MM`, 40_arithmetic.md R202. -/
  | addcMemReg (mem : Word) (reg : Byte)
  /-- ADDCB Rbn, Rbm: `11 nm`, 40_arithmetic.md R203. -/
  | addcbRbRb (n m : Nib)
  /-- ADDCB Rbn, [Rwi]: `19 n:10ii`, 40_arithmetic.md R203. -/
  | addcbRbInd (n : Nib) (i : BitVec 2)
  /-- ADDCB Rbn, [Rwi+]: `19 n:11ii`, 40_arithmetic.md R203. -/
  | addcbRbIndInc (n : Nib) (i : BitVec 2)
  /-- ADDCB Rbn, #data3: `19 n:0ddd`, 40_arithmetic.md R203. -/
  | addcbRbData3 (n : Nib) (data3 : BitVec 3)
  /-- ADDCB reg, #data8: `17 RR dd xx`, 40_arithmetic.md R203. -/
  | addcbRegData8 (reg data8 : Byte)
  /-- ADDCB reg, mem: `13 RR MM MM`, 40_arithmetic.md R203. -/
  | addcbRegMem (reg : Byte) (mem : Word)
  /-- ADDCB mem, reg: `15 RR MM MM`, 40_arithmetic.md R203. -/
  | addcbMemReg (mem : Word) (reg : Byte)
  /-- SUB Rwn, Rwm: `20 nm`, 40_arithmetic.md R204. -/
  | subRwRw (n m : Nib)
  /-- SUB Rwn, [Rwi]: `28 n:10ii`, 40_arithmetic.md R204. -/
  | subRwInd (n : Nib) (i : BitVec 2)
  /-- SUB Rwn, [Rwi+]: `28 n:11ii`, 40_arithmetic.md R204. -/
  | subRwIndInc (n : Nib) (i : BitVec 2)
  /-- SUB Rwn, #data3: `28 n:0ddd`, 40_arithmetic.md R204. -/
  | subRwData3 (n : Nib) (data3 : BitVec 3)
  /-- SUB reg, #data16: `26 RR dd dd`, 40_arithmetic.md R204. -/
  | subRegData16 (reg : Byte) (data16 : Word)
  /-- SUB reg, mem: `22 RR MM MM`, 40_arithmetic.md R204. -/
  | subRegMem (reg : Byte) (mem : Word)
  /-- SUB mem, reg: `24 RR MM MM`, 40_arithmetic.md R204. -/
  | subMemReg (mem : Word) (reg : Byte)
  /-- SUBB Rbn, Rbm: `21 nm`, 40_arithmetic.md R205. -/
  | subbRbRb (n m : Nib)
  /-- SUBB Rbn, [Rwi]: `29 n:10ii`, 40_arithmetic.md R205. -/
  | subbRbInd (n : Nib) (i : BitVec 2)
  /-- SUBB Rbn, [Rwi+]: `29 n:11ii`, 40_arithmetic.md R205. -/
  | subbRbIndInc (n : Nib) (i : BitVec 2)
  /-- SUBB Rbn, #data3: `29 n:0ddd`, 40_arithmetic.md R205. -/
  | subbRbData3 (n : Nib) (data3 : BitVec 3)
  /-- SUBB reg, #data8: `27 RR dd xx`, 40_arithmetic.md R205. -/
  | subbRegData8 (reg data8 : Byte)
  /-- SUBB reg, mem: `23 RR MM MM`, 40_arithmetic.md R205. -/
  | subbRegMem (reg : Byte) (mem : Word)
  /-- SUBB mem, reg: `25 RR MM MM`, 40_arithmetic.md R205. -/
  | subbMemReg (mem : Word) (reg : Byte)
  /-- SUBC Rwn, Rwm: `30 nm`, 40_arithmetic.md R206. -/
  | subcRwRw (n m : Nib)
  /-- SUBC Rwn, [Rwi]: `38 n:10ii`, 40_arithmetic.md R206. -/
  | subcRwInd (n : Nib) (i : BitVec 2)
  /-- SUBC Rwn, [Rwi+]: `38 n:11ii`, 40_arithmetic.md R206. -/
  | subcRwIndInc (n : Nib) (i : BitVec 2)
  /-- SUBC Rwn, #data3: `38 n:0ddd`, 40_arithmetic.md R206. -/
  | subcRwData3 (n : Nib) (data3 : BitVec 3)
  /-- SUBC reg, #data16: `36 RR dd dd`, 40_arithmetic.md R206. -/
  | subcRegData16 (reg : Byte) (data16 : Word)
  /-- SUBC reg, mem: `32 RR MM MM`, 40_arithmetic.md R206. -/
  | subcRegMem (reg : Byte) (mem : Word)
  /-- SUBC mem, reg: `34 RR MM MM`, 40_arithmetic.md R206. -/
  | subcMemReg (mem : Word) (reg : Byte)
  /-- SUBCB Rbn, Rbm: `31 nm`, 40_arithmetic.md R207. -/
  | subcbRbRb (n m : Nib)
  /-- SUBCB Rbn, [Rwi]: `39 n:10ii`, 40_arithmetic.md R207. -/
  | subcbRbInd (n : Nib) (i : BitVec 2)
  /-- SUBCB Rbn, [Rwi+]: `39 n:11ii`, 40_arithmetic.md R207. -/
  | subcbRbIndInc (n : Nib) (i : BitVec 2)
  /-- SUBCB Rbn, #data3: `39 n:0ddd`, 40_arithmetic.md R207. -/
  | subcbRbData3 (n : Nib) (data3 : BitVec 3)
  /-- SUBCB reg, #data8: `37 RR dd xx`, 40_arithmetic.md R207. -/
  | subcbRegData8 (reg data8 : Byte)
  /-- SUBCB reg, mem: `33 RR MM MM`, 40_arithmetic.md R207. -/
  | subcbRegMem (reg : Byte) (mem : Word)
  /-- SUBCB mem, reg: `35 RR MM MM`, 40_arithmetic.md R207. -/
  | subcbMemReg (mem : Word) (reg : Byte)
  /-- CMP Rwn, Rwm: `40 nm`, 42_bit_and_compare.md R262. -/
  | cmpRwRw (n m : Nib)
  /-- CMP Rwn, [Rwi]: `48 n:10ii`, 42_bit_and_compare.md R262. -/
  | cmpRwInd (n : Nib) (i : BitVec 2)
  /-- CMP Rwn, [Rwi+]: `48 n:11ii`, 42_bit_and_compare.md R262. -/
  | cmpRwIndInc (n : Nib) (i : BitVec 2)
  /-- CMP Rwn, #data3: `48 n:0ddd`, 42_bit_and_compare.md R262. -/
  | cmpRwData3 (n : Nib) (data3 : BitVec 3)
  /-- CMP reg, #data16: `46 RR dd dd`, 42_bit_and_compare.md R262. -/
  | cmpRegData16 (reg : Byte) (data16 : Word)
  /-- CMP reg, mem: `42 RR MM MM`, 42_bit_and_compare.md R262. -/
  | cmpRegMem (reg : Byte) (mem : Word)
  /-- CMPB Rbn, Rbm: `41 nm`, 42_bit_and_compare.md R263. -/
  | cmpbRbRb (n m : Nib)
  /-- CMPB Rbn, [Rwi]: `49 n:10ii`, 42_bit_and_compare.md R263. -/
  | cmpbRbInd (n : Nib) (i : BitVec 2)
  /-- CMPB Rbn, [Rwi+]: `49 n:11ii`, 42_bit_and_compare.md R263. -/
  | cmpbRbIndInc (n : Nib) (i : BitVec 2)
  /-- CMPB Rbn, #data3: `49 n:0ddd`, 42_bit_and_compare.md R263. -/
  | cmpbRbData3 (n : Nib) (data3 : BitVec 3)
  /-- CMPB reg, #data8: `47 RR dd xx`, 42_bit_and_compare.md R263. -/
  | cmpbRegData8 (reg data8 : Byte)
  /-- CMPB reg, mem: `43 RR MM MM`, 42_bit_and_compare.md R263. -/
  | cmpbRegMem (reg : Byte) (mem : Word)
  /-- XOR Rwn, Rwm: `50 nm`, 41_logical.md R244. -/
  | xorRwRw (n m : Nib)
  /-- XOR Rwn, [Rwi]: `58 n:10ii`, 41_logical.md R244. -/
  | xorRwInd (n : Nib) (i : BitVec 2)
  /-- XOR Rwn, [Rwi+]: `58 n:11ii`, 41_logical.md R244. -/
  | xorRwIndInc (n : Nib) (i : BitVec 2)
  /-- XOR Rwn, #data3: `58 n:0ddd`, 41_logical.md R244. -/
  | xorRwData3 (n : Nib) (data3 : BitVec 3)
  /-- XOR reg, #data16: `56 RR dd dd`, 41_logical.md R244. -/
  | xorRegData16 (reg : Byte) (data16 : Word)
  /-- XOR reg, mem: `52 RR MM MM`, 41_logical.md R244. -/
  | xorRegMem (reg : Byte) (mem : Word)
  /-- XOR mem, reg: `54 RR MM MM`, 41_logical.md R244. -/
  | xorMemReg (mem : Word) (reg : Byte)
  /-- XORB Rbn, Rbm: `51 nm`, 41_logical.md R245. -/
  | xorbRbRb (n m : Nib)
  /-- XORB Rbn, [Rwi]: `59 n:10ii`, 41_logical.md R245. -/
  | xorbRbInd (n : Nib) (i : BitVec 2)
  /-- XORB Rbn, [Rwi+]: `59 n:11ii`, 41_logical.md R245. -/
  | xorbRbIndInc (n : Nib) (i : BitVec 2)
  /-- XORB Rbn, #data3: `59 n:0ddd`, 41_logical.md R245. -/
  | xorbRbData3 (n : Nib) (data3 : BitVec 3)
  /-- XORB reg, #data8: `57 RR dd xx`, 41_logical.md R245. -/
  | xorbRegData8 (reg data8 : Byte)
  /-- XORB reg, mem: `53 RR MM MM`, 41_logical.md R245. -/
  | xorbRegMem (reg : Byte) (mem : Word)
  /-- XORB mem, reg: `55 RR MM MM`, 41_logical.md R245. -/
  | xorbMemReg (mem : Word) (reg : Byte)
  /-- AND Rwn, Rwm: `60 nm`, 41_logical.md R240. -/
  | andRwRw (n m : Nib)
  /-- AND Rwn, [Rwi]: `68 n:10ii`, 41_logical.md R240. -/
  | andRwInd (n : Nib) (i : BitVec 2)
  /-- AND Rwn, [Rwi+]: `68 n:11ii`, 41_logical.md R240. -/
  | andRwIndInc (n : Nib) (i : BitVec 2)
  /-- AND Rwn, #data3: `68 n:0ddd`, 41_logical.md R240. -/
  | andRwData3 (n : Nib) (data3 : BitVec 3)
  /-- AND reg, #data16: `66 RR dd dd`, 41_logical.md R240. -/
  | andRegData16 (reg : Byte) (data16 : Word)
  /-- AND reg, mem: `62 RR MM MM`, 41_logical.md R240. -/
  | andRegMem (reg : Byte) (mem : Word)
  /-- AND mem, reg: `64 RR MM MM`, 41_logical.md R240. -/
  | andMemReg (mem : Word) (reg : Byte)
  /-- ANDB Rbn, Rbm: `61 nm`, 41_logical.md R241. -/
  | andbRbRb (n m : Nib)
  /-- ANDB Rbn, [Rwi]: `69 n:10ii`, 41_logical.md R241. -/
  | andbRbInd (n : Nib) (i : BitVec 2)
  /-- ANDB Rbn, [Rwi+]: `69 n:11ii`, 41_logical.md R241. -/
  | andbRbIndInc (n : Nib) (i : BitVec 2)
  /-- ANDB Rbn, #data3: `69 n:0ddd`, 41_logical.md R241. -/
  | andbRbData3 (n : Nib) (data3 : BitVec 3)
  /-- ANDB reg, #data8: `67 RR dd xx`, 41_logical.md R241. -/
  | andbRegData8 (reg data8 : Byte)
  /-- ANDB reg, mem: `63 RR MM MM`, 41_logical.md R241. -/
  | andbRegMem (reg : Byte) (mem : Word)
  /-- ANDB mem, reg: `65 RR MM MM`, 41_logical.md R241. -/
  | andbMemReg (mem : Word) (reg : Byte)
  /-- OR Rwn, Rwm: `70 nm`, 41_logical.md R242. -/
  | orRwRw (n m : Nib)
  /-- OR Rwn, [Rwi]: `78 n:10ii`, 41_logical.md R242. -/
  | orRwInd (n : Nib) (i : BitVec 2)
  /-- OR Rwn, [Rwi+]: `78 n:11ii`, 41_logical.md R242. -/
  | orRwIndInc (n : Nib) (i : BitVec 2)
  /-- OR Rwn, #data3: `78 n:0ddd`, 41_logical.md R242. -/
  | orRwData3 (n : Nib) (data3 : BitVec 3)
  /-- OR reg, #data16: `76 RR dd dd`, 41_logical.md R242. -/
  | orRegData16 (reg : Byte) (data16 : Word)
  /-- OR reg, mem: `72 RR MM MM`, 41_logical.md R242. -/
  | orRegMem (reg : Byte) (mem : Word)
  /-- OR mem, reg: `74 RR MM MM`, 41_logical.md R242. -/
  | orMemReg (mem : Word) (reg : Byte)
  /-- ORB Rbn, Rbm: `71 nm`, 41_logical.md R243. -/
  | orbRbRb (n m : Nib)
  /-- ORB Rbn, [Rwi]: `79 n:10ii`, 41_logical.md R243. -/
  | orbRbInd (n : Nib) (i : BitVec 2)
  /-- ORB Rbn, [Rwi+]: `79 n:11ii`, 41_logical.md R243. -/
  | orbRbIndInc (n : Nib) (i : BitVec 2)
  /-- ORB Rbn, #data3: `79 n:0ddd`, 41_logical.md R243. -/
  | orbRbData3 (n : Nib) (data3 : BitVec 3)
  /-- ORB reg, #data8: `77 RR dd xx`, 41_logical.md R243. -/
  | orbRegData8 (reg data8 : Byte)
  /-- ORB reg, mem: `73 RR MM MM`, 41_logical.md R243. -/
  | orbRegMem (reg : Byte) (mem : Word)
  /-- ORB mem, reg: `75 RR MM MM`, 41_logical.md R243. -/
  | orbMemReg (mem : Word) (reg : Byte)
  /-- MUL Rwn, Rwm: `0B nm`, 40_arithmetic.md R208. -/
  | mul (n m : Nib)
  /-- MULU Rwn, Rwm: `1B nm`, 40_arithmetic.md R209. -/
  | mulu (n m : Nib)
  /-- DIV Rwn: `4B ne`, 40_arithmetic.md R210. -/
  | div (n : Nib)
  /-- DIVL Rwn: `6B ne`, 40_arithmetic.md R211. -/
  | divl (n : Nib)
  /-- DIVLU Rwn: `7B ne`, 40_arithmetic.md R212. -/
  | divlu (n : Nib)
  /-- DIVU Rwn: `5B ne`, 40_arithmetic.md R213. -/
  | divu (n : Nib)
  /-- CPL Rwn: `91 n0`, 40_arithmetic.md R214. -/
  | cpl (n : Nib)
  /-- CPLB Rbn: `B1 n0`, 40_arithmetic.md R215. -/
  | cplb (n : Nib)
  /-- NEG Rwn: `81 n0`, 40_arithmetic.md R216. -/
  | neg (n : Nib)
  /-- NEGB Rbn: `A1 n0`, 40_arithmetic.md R217. -/
  | negb (n : Nib)
  /-- BCLR bitaddrQ.q: `qE QQ`, 42_bit_and_compare.md R250. -/
  | bclr (bitoff : Byte) (pos : Nib)
  /-- BSET bitaddrQ.q: `qF QQ`, 42_bit_and_compare.md R251. -/
  | bset (bitoff : Byte) (pos : Nib)
  /-- BMOV bitaddrZ.z, bitaddrQ.q: `4A QQ ZZ qz`, 42_bit_and_compare.md R252. -/
  | bmov (dst : Byte) (dpos : Nib) (src : Byte) (spos : Nib)
  /-- BMOVN bitaddrZ.z, bitaddrQ.q: `3A QQ ZZ qz`, 42_bit_and_compare.md R253. -/
  | bmovn (dst : Byte) (dpos : Nib) (src : Byte) (spos : Nib)
  /-- BAND bitaddrZ.z, bitaddrQ.q: `6A QQ ZZ qz`, 42_bit_and_compare.md R254. -/
  | band (dst : Byte) (dpos : Nib) (src : Byte) (spos : Nib)
  /-- BOR bitaddrZ.z, bitaddrQ.q: `5A QQ ZZ qz`, 42_bit_and_compare.md R255. -/
  | bor (dst : Byte) (dpos : Nib) (src : Byte) (spos : Nib)
  /-- BXOR bitaddrZ.z, bitaddrQ.q: `7A QQ ZZ qz`, 42_bit_and_compare.md R256. -/
  | bxor (dst : Byte) (dpos : Nib) (src : Byte) (spos : Nib)
  /-- BCMP bitaddrZ.z, bitaddrQ.q: `2A QQ ZZ qz`, 42_bit_and_compare.md R257. -/
  | bcmp (dst : Byte) (dpos : Nib) (src : Byte) (spos : Nib)
  /-- BFLDH bitoffQ, #mask8, #data8: `1A QQ dd kk`, 42_bit_and_compare.md R258. -/
  | bfldh (bitoff mask8 data8 : Byte)
  /-- BFLDL bitoffQ, #mask8, #data8: `0A QQ kk dd`, 42_bit_and_compare.md R259. -/
  | bfldl (bitoff mask8 data8 : Byte)
  /-- CMPD1 Rwn, #data4: `A0 dn`, 43_loop_prior_shift.md R270. -/
  | cmpd1RwData4 (n data4 : Nib)
  /-- CMPD1 Rwn, #data16: `A6 Fn dd dd`, 43_loop_prior_shift.md R270. -/
  | cmpd1RwData16 (n : Nib) (data16 : Word)
  /-- CMPD1 Rwn, mem: `A2 Fn MM MM`, 43_loop_prior_shift.md R270. -/
  | cmpd1RwMem (n : Nib) (mem : Word)
  /-- CMPD2 Rwn, #data4: `B0 dn`, 43_loop_prior_shift.md R271. -/
  | cmpd2RwData4 (n data4 : Nib)
  /-- CMPD2 Rwn, #data16: `B6 Fn dd dd`, 43_loop_prior_shift.md R271. -/
  | cmpd2RwData16 (n : Nib) (data16 : Word)
  /-- CMPD2 Rwn, mem: `B2 Fn MM MM`, 43_loop_prior_shift.md R271. -/
  | cmpd2RwMem (n : Nib) (mem : Word)
  /-- CMPI1 Rwn, #data4: `80 dn`, 43_loop_prior_shift.md R272. -/
  | cmpi1RwData4 (n data4 : Nib)
  /-- CMPI1 Rwn, #data16: `86 Fn dd dd`, 43_loop_prior_shift.md R272. -/
  | cmpi1RwData16 (n : Nib) (data16 : Word)
  /-- CMPI1 Rwn, mem: `82 Fn MM MM`, 43_loop_prior_shift.md R272. -/
  | cmpi1RwMem (n : Nib) (mem : Word)
  /-- CMPI2 Rwn, #data4: `90 dn`, 43_loop_prior_shift.md R273. -/
  | cmpi2RwData4 (n data4 : Nib)
  /-- CMPI2 Rwn, #data16: `96 Fn dd dd`, 43_loop_prior_shift.md R273. -/
  | cmpi2RwData16 (n : Nib) (data16 : Word)
  /-- CMPI2 Rwn, mem: `92 Fn MM MM`, 43_loop_prior_shift.md R273. -/
  | cmpi2RwMem (n : Nib) (mem : Word)
  /-- PRIOR Rwn, Rwm: `2B nm`, 43_loop_prior_shift.md R274. -/
  | prior (n m : Nib)
  /-- SHL Rwn, Rwm: `4C nm`, 43_loop_prior_shift.md R275. -/
  | shlRwRw (n m : Nib)
  /-- SHL Rwn, #data4: `5C dn`, 43_loop_prior_shift.md R275. -/
  | shlRwData4 (n data4 : Nib)
  /-- SHR Rwn, Rwm: `6C nm`, 43_loop_prior_shift.md R276. -/
  | shrRwRw (n m : Nib)
  /-- SHR Rwn, #data4: `7C dn`, 43_loop_prior_shift.md R276. -/
  | shrRwData4 (n data4 : Nib)
  /-- ROL Rwn, Rwm: `0C nm`, 43_loop_prior_shift.md R277. -/
  | rolRwRw (n m : Nib)
  /-- ROL Rwn, #data4: `1C dn`, 43_loop_prior_shift.md R277. -/
  | rolRwData4 (n data4 : Nib)
  /-- ROR Rwn, Rwm: `2C nm`, 43_loop_prior_shift.md R278. -/
  | rorRwRw (n m : Nib)
  /-- ROR Rwn, #data4: `3C dn`, 43_loop_prior_shift.md R278. -/
  | rorRwData4 (n data4 : Nib)
  /-- ASHR Rwn, Rwm: `AC nm`, 43_loop_prior_shift.md R279. -/
  | ashrRwRw (n m : Nib)
  /-- ASHR Rwn, #data4: `BC dn`, 43_loop_prior_shift.md R279. -/
  | ashrRwData4 (n data4 : Nib)
  /-- MOV Rwn, Rwm: `F0 nm`, 44_data_movement.md R290. -/
  | movRwRw (n m : Nib)
  /-- MOV Rwn, #data4: `E0 dn`, 44_data_movement.md R291. -/
  | movRwData4 (n data4 : Nib)
  /-- MOV reg, #data16: `E6 RR dd dd`, 44_data_movement.md R292. -/
  | movRegData16 (reg : Byte) (data16 : Word)
  /-- MOV Rwn, [Rwm]: `A8 nm`, 44_data_movement.md R293. -/
  | movRwInd (n m : Nib)
  /-- MOV Rwn, [Rwm+]: `98 nm`, 44_data_movement.md R294. -/
  | movRwIndInc (n m : Nib)
  /-- MOV [Rwm], Rwn: `B8 nm`, 44_data_movement.md R295. -/
  | movIndRw (m n : Nib)
  /-- MOV [-Rwm], Rwn: `88 nm`, 44_data_movement.md R296. -/
  | movPreDecRw (m n : Nib)
  /-- MOV [Rwn], [Rwm]: `C8 nm`, 44_data_movement.md R297. -/
  | movIndInd (n m : Nib)
  /-- MOV [Rwn+], [Rwm]: `D8 nm`, 44_data_movement.md R298. -/
  | movIndIncInd (n m : Nib)
  /-- MOV [Rwn], [Rwm+]: `E8 nm`, 44_data_movement.md R299. -/
  | movIndIndInc (n m : Nib)
  /-- MOV Rwn, [Rwm+#data16]: `D4 nm dd dd`, 44_data_movement.md R300. -/
  | movRwDisp (n m : Nib) (disp : Word)
  /-- MOV [Rwm+#data16], Rwn: `C4 nm dd dd`, 44_data_movement.md R301. -/
  | movDispRw (m : Nib) (disp : Word) (n : Nib)
  /-- MOV [Rwn], mem: `84 0n MM MM`, 44_data_movement.md R302. -/
  | movIndMem (n : Nib) (mem : Word)
  /-- MOV mem, [Rwn]: `94 0n MM MM`, 44_data_movement.md R303. -/
  | movMemInd (mem : Word) (n : Nib)
  /-- MOV reg, mem: `F2 RR MM MM`, 44_data_movement.md R304. -/
  | movRegMem (reg : Byte) (mem : Word)
  /-- MOV mem, reg: `F6 RR MM MM`, 44_data_movement.md R305. -/
  | movMemReg (mem : Word) (reg : Byte)
  /-- MOVB Rbn, Rbm: `F1 nm`, 44_data_movement.md R310. -/
  | movbRbRb (n m : Nib)
  /-- MOVB Rbn, #data4: `E1 dn`, 44_data_movement.md R311. -/
  | movbRbData4 (n data4 : Nib)
  /-- MOVB reg, #data8: `E7 RR dd xx`, 44_data_movement.md R312. -/
  | movbRegData8 (reg data8 : Byte)
  /-- MOVB Rbn, [Rwm]: `A9 nm`, 44_data_movement.md R313. -/
  | movbRbInd (n m : Nib)
  /-- MOVB Rbn, [Rwm+]: `99 nm`, 44_data_movement.md R314. -/
  | movbRbIndInc (n m : Nib)
  /-- MOVB [Rwm], Rbn: `B9 nm`, 44_data_movement.md R315. -/
  | movbIndRb (m n : Nib)
  /-- MOVB [-Rwm], Rbn: `89 nm`, 44_data_movement.md R316. -/
  | movbPreDecRb (m n : Nib)
  /-- MOVB [Rwn], [Rwm]: `C9 nm`, 44_data_movement.md R317. -/
  | movbIndInd (n m : Nib)
  /-- MOVB [Rwn+], [Rwm]: `D9 nm`, 44_data_movement.md R318. -/
  | movbIndIncInd (n m : Nib)
  /-- MOVB [Rwn], [Rwm+]: `E9 nm`, 44_data_movement.md R319. -/
  | movbIndIndInc (n m : Nib)
  /-- MOVB Rbn, [Rwm+#data16]: `F4 nm dd dd`, 44_data_movement.md R320. -/
  | movbRbDisp (n m : Nib) (disp : Word)
  /-- MOVB [Rwm+#data16], Rbn: `E4 nm dd dd`, 44_data_movement.md R321. -/
  | movbDispRb (m : Nib) (disp : Word) (n : Nib)
  /-- MOVB [Rwn], mem: `A4 0n MM MM`, 44_data_movement.md R322. -/
  | movbIndMem (n : Nib) (mem : Word)
  /-- MOVB mem, [Rwn]: `B4 0n MM MM`, 44_data_movement.md R323. -/
  | movbMemInd (mem : Word) (n : Nib)
  /-- MOVB reg, mem: `F3 RR MM MM`, 44_data_movement.md R324. -/
  | movbRegMem (reg : Byte) (mem : Word)
  /-- MOVB mem, reg: `F7 RR MM MM`, 44_data_movement.md R325. -/
  | movbMemReg (mem : Word) (reg : Byte)
  /-- MOVBS Rwn, Rbm: `D0 mn`, 44_data_movement.md R330. -/
  | movbsRwRb (n m : Nib)
  /-- MOVBS reg, mem: `D2 RR MM MM`, 44_data_movement.md R331. -/
  | movbsRegMem (reg : Byte) (mem : Word)
  /-- MOVBS mem, reg: `D5 RR MM MM`, 44_data_movement.md R332. -/
  | movbsMemReg (mem : Word) (reg : Byte)
  /-- MOVBZ Rwn, Rbm: `C0 mn`, 44_data_movement.md R333. -/
  | movbzRwRb (n m : Nib)
  /-- MOVBZ reg, mem: `C2 RR MM MM`, 44_data_movement.md R334. -/
  | movbzRegMem (reg : Byte) (mem : Word)
  /-- MOVBZ mem, reg: `C5 RR MM MM`, 44_data_movement.md R335. -/
  | movbzMemReg (mem : Word) (reg : Byte)
  /-- JMPA cc, caddr: `EA c0 aa aa`, 45_jump_call.md R343. -/
  | jmpa (cc : Nib) (caddr : Word)
  /-- JMPI cc, [Rwn]: `9C cn`, 45_jump_call.md R344. -/
  | jmpi (cc n : Nib)
  /-- JMPR cc, rel: `cD rr`, 45_jump_call.md R345. -/
  | jmpr (cc : Nib) (rel : Byte)
  /-- JMPS seg, caddr: `FA SS aa aa`, 45_jump_call.md R346. -/
  | jmps (seg : Byte) (caddr : Word)
  /-- JB bitaddrQ.q, rel: `8A QQ rr q0`, 45_jump_call.md R347. -/
  | jb (bitoff : Byte) (pos : Nib) (rel : Byte)
  /-- JBC bitaddrQ.q, rel: `AA QQ rr q0`, 45_jump_call.md R348. -/
  | jbc (bitoff : Byte) (pos : Nib) (rel : Byte)
  /-- JNB bitaddrQ.q, rel: `9A QQ rr q0`, 45_jump_call.md R349. -/
  | jnb (bitoff : Byte) (pos : Nib) (rel : Byte)
  /-- JNBS bitaddrQ.q, rel: `BA QQ rr q0`, 45_jump_call.md R350. -/
  | jnbs (bitoff : Byte) (pos : Nib) (rel : Byte)
  /-- CALLA cc, caddr: `CA c0 aa aa`, 45_jump_call.md R351. -/
  | calla (cc : Nib) (caddr : Word)
  /-- CALLI cc, [Rwn]: `AB cn`, 45_jump_call.md R352. -/
  | calli (cc n : Nib)
  /-- CALLR rel: `BB rr`, 45_jump_call.md R353. -/
  | callr (rel : Byte)
  /-- CALLS seg, caddr: `DA SS aa aa`, 45_jump_call.md R354. -/
  | calls (seg : Byte) (caddr : Word)
  /-- PCALL reg, caddr: `E2 RR aa aa`, 45_jump_call.md R355. -/
  | pcall (reg : Byte) (caddr : Word)
  /-- TRAP #trap7: `9B t:ttt0`, 45_jump_call.md R356. -/
  | trap (trap7 : BitVec 7)
  /-- POP reg: `FC RR`, 46_stack_return.md R370. -/
  | pop (reg : Byte)
  /-- PUSH reg: `EC RR`, 46_stack_return.md R371. -/
  | push (reg : Byte)
  /-- SCXT reg, #data16: `C6 RR dd dd`, 46_stack_return.md R372. -/
  | scxtRegData16 (reg : Byte) (data16 : Word)
  /-- SCXT reg, mem: `D6 RR MM MM`, 46_stack_return.md R373. -/
  | scxtRegMem (reg : Byte) (mem : Word)
  /-- RET: `CB 00`, 46_stack_return.md R374. -/
  | ret
  /-- RETS: `DB 00`, 46_stack_return.md R375. -/
  | rets
  /-- RETP reg: `EB RR`, 46_stack_return.md R376. -/
  | retp (reg : Byte)
  /-- RETI: `FB 88`, 46_stack_return.md R377. -/
  | reti
  /-- SRST: `B7 48 B7 B7`, 47_system_control.md R390. -/
  | srst
  /-- IDLE: `87 78 87 87`, 47_system_control.md R391. -/
  | idle
  /-- PWRDN: `97 68 97 97`, 47_system_control.md R393. -/
  | pwrdn
  /-- SRVWDT: `A7 58 A7 A7`, 47_system_control.md R394. -/
  | srvwdt
  /-- DISWDT: `A5 5A A5 A5`, 47_system_control.md R395. -/
  | diswdt
  /-- EINIT: `B5 4A B5 B5`, 47_system_control.md R396. -/
  | einit
  /-- ATOMIC #irang2: `D1 :00gg0`, 47_system_control.md R400. -/
  | atomic (irang2 : BitVec 2)
  /-- EXTR #irang2: `D1 :10gg0`, 47_system_control.md R401. -/
  | extr (irang2 : BitVec 2)
  /-- EXTP Rwm, #irang2: `DC :01ggm`, 47_system_control.md R402. -/
  | extpRw (m : Nib) (irang2 : BitVec 2)
  /-- EXTP #pag10, #irang2: `D7 :01gg0 pp :000000pp`, 47_system_control.md R403. -/
  | extpPag (pag10 : BitVec 10) (irang2 : BitVec 2)
  /-- EXTPR Rwm, #irang2: `DC :11ggm`, 47_system_control.md R404. -/
  | extprRw (m : Nib) (irang2 : BitVec 2)
  /-- EXTPR #pag10, #irang2: `D7 :11gg0 pp :000000pp`, 47_system_control.md R405. -/
  | extprPag (pag10 : BitVec 10) (irang2 : BitVec 2)
  /-- EXTS Rwm, #irang2: `DC :00ggm`, 47_system_control.md R406. -/
  | extsRw (m : Nib) (irang2 : BitVec 2)
  /-- EXTS #seg8, #irang2: `D7 :00gg0 ss 00`, 47_system_control.md R407. -/
  | extsSeg (seg8 : Byte) (irang2 : BitVec 2)
  /-- EXTSR Rwm, #irang2: `DC :10ggm`, 47_system_control.md R408. -/
  | extsrRw (m : Nib) (irang2 : BitVec 2)
  /-- EXTSR #seg8, #irang2: `D7 :10gg0 ss 00`, 47_system_control.md R409. -/
  | extsrSeg (seg8 : Byte) (irang2 : BitVec 2)
  /-- NOP: `CC 00`, 47_system_control.md R410. -/
  | nop
deriving DecidableEq, Repr

end Sys2Proof
end

