-- ==== Sys2Proof/WellFormed.lean ====
section
/-! DEFINITION. Which instructions a device has (00_scope.md R2, 47_system_control.md R398). Every other condition on an
operand is in the type of its field. -/

namespace Sys2Proof

/-- The ATOMIC and EXTended instructions, the starters of a sequence (47_system_control.md R399). -/
def Instr.isStarter : Instr → Bool
  | .addRwRw _ _ => false
  | .addRwInd _ _ => false
  | .addRwIndInc _ _ => false
  | .addRwData3 _ _ => false
  | .addRegData16 _ _ => false
  | .addRegMem _ _ => false
  | .addMemReg _ _ => false
  | .addbRbRb _ _ => false
  | .addbRbInd _ _ => false
  | .addbRbIndInc _ _ => false
  | .addbRbData3 _ _ => false
  | .addbRegData8 _ _ => false
  | .addbRegMem _ _ => false
  | .addbMemReg _ _ => false
  | .addcRwRw _ _ => false
  | .addcRwInd _ _ => false
  | .addcRwIndInc _ _ => false
  | .addcRwData3 _ _ => false
  | .addcRegData16 _ _ => false
  | .addcRegMem _ _ => false
  | .addcMemReg _ _ => false
  | .addcbRbRb _ _ => false
  | .addcbRbInd _ _ => false
  | .addcbRbIndInc _ _ => false
  | .addcbRbData3 _ _ => false
  | .addcbRegData8 _ _ => false
  | .addcbRegMem _ _ => false
  | .addcbMemReg _ _ => false
  | .subRwRw _ _ => false
  | .subRwInd _ _ => false
  | .subRwIndInc _ _ => false
  | .subRwData3 _ _ => false
  | .subRegData16 _ _ => false
  | .subRegMem _ _ => false
  | .subMemReg _ _ => false
  | .subbRbRb _ _ => false
  | .subbRbInd _ _ => false
  | .subbRbIndInc _ _ => false
  | .subbRbData3 _ _ => false
  | .subbRegData8 _ _ => false
  | .subbRegMem _ _ => false
  | .subbMemReg _ _ => false
  | .subcRwRw _ _ => false
  | .subcRwInd _ _ => false
  | .subcRwIndInc _ _ => false
  | .subcRwData3 _ _ => false
  | .subcRegData16 _ _ => false
  | .subcRegMem _ _ => false
  | .subcMemReg _ _ => false
  | .subcbRbRb _ _ => false
  | .subcbRbInd _ _ => false
  | .subcbRbIndInc _ _ => false
  | .subcbRbData3 _ _ => false
  | .subcbRegData8 _ _ => false
  | .subcbRegMem _ _ => false
  | .subcbMemReg _ _ => false
  | .cmpRwRw _ _ => false
  | .cmpRwInd _ _ => false
  | .cmpRwIndInc _ _ => false
  | .cmpRwData3 _ _ => false
  | .cmpRegData16 _ _ => false
  | .cmpRegMem _ _ => false
  | .cmpbRbRb _ _ => false
  | .cmpbRbInd _ _ => false
  | .cmpbRbIndInc _ _ => false
  | .cmpbRbData3 _ _ => false
  | .cmpbRegData8 _ _ => false
  | .cmpbRegMem _ _ => false
  | .xorRwRw _ _ => false
  | .xorRwInd _ _ => false
  | .xorRwIndInc _ _ => false
  | .xorRwData3 _ _ => false
  | .xorRegData16 _ _ => false
  | .xorRegMem _ _ => false
  | .xorMemReg _ _ => false
  | .xorbRbRb _ _ => false
  | .xorbRbInd _ _ => false
  | .xorbRbIndInc _ _ => false
  | .xorbRbData3 _ _ => false
  | .xorbRegData8 _ _ => false
  | .xorbRegMem _ _ => false
  | .xorbMemReg _ _ => false
  | .andRwRw _ _ => false
  | .andRwInd _ _ => false
  | .andRwIndInc _ _ => false
  | .andRwData3 _ _ => false
  | .andRegData16 _ _ => false
  | .andRegMem _ _ => false
  | .andMemReg _ _ => false
  | .andbRbRb _ _ => false
  | .andbRbInd _ _ => false
  | .andbRbIndInc _ _ => false
  | .andbRbData3 _ _ => false
  | .andbRegData8 _ _ => false
  | .andbRegMem _ _ => false
  | .andbMemReg _ _ => false
  | .orRwRw _ _ => false
  | .orRwInd _ _ => false
  | .orRwIndInc _ _ => false
  | .orRwData3 _ _ => false
  | .orRegData16 _ _ => false
  | .orRegMem _ _ => false
  | .orMemReg _ _ => false
  | .orbRbRb _ _ => false
  | .orbRbInd _ _ => false
  | .orbRbIndInc _ _ => false
  | .orbRbData3 _ _ => false
  | .orbRegData8 _ _ => false
  | .orbRegMem _ _ => false
  | .orbMemReg _ _ => false
  | .mul _ _ => false
  | .mulu _ _ => false
  | .div _ => false
  | .divl _ => false
  | .divlu _ => false
  | .divu _ => false
  | .cpl _ => false
  | .cplb _ => false
  | .neg _ => false
  | .negb _ => false
  | .bclr _ _ => false
  | .bset _ _ => false
  | .bmov _ _ _ _ => false
  | .bmovn _ _ _ _ => false
  | .band _ _ _ _ => false
  | .bor _ _ _ _ => false
  | .bxor _ _ _ _ => false
  | .bcmp _ _ _ _ => false
  | .bfldh _ _ _ => false
  | .bfldl _ _ _ => false
  | .cmpd1RwData4 _ _ => false
  | .cmpd1RwData16 _ _ => false
  | .cmpd1RwMem _ _ => false
  | .cmpd2RwData4 _ _ => false
  | .cmpd2RwData16 _ _ => false
  | .cmpd2RwMem _ _ => false
  | .cmpi1RwData4 _ _ => false
  | .cmpi1RwData16 _ _ => false
  | .cmpi1RwMem _ _ => false
  | .cmpi2RwData4 _ _ => false
  | .cmpi2RwData16 _ _ => false
  | .cmpi2RwMem _ _ => false
  | .prior _ _ => false
  | .shlRwRw _ _ => false
  | .shlRwData4 _ _ => false
  | .shrRwRw _ _ => false
  | .shrRwData4 _ _ => false
  | .rolRwRw _ _ => false
  | .rolRwData4 _ _ => false
  | .rorRwRw _ _ => false
  | .rorRwData4 _ _ => false
  | .ashrRwRw _ _ => false
  | .ashrRwData4 _ _ => false
  | .movRwRw _ _ => false
  | .movRwData4 _ _ => false
  | .movRegData16 _ _ => false
  | .movRwInd _ _ => false
  | .movRwIndInc _ _ => false
  | .movIndRw _ _ => false
  | .movPreDecRw _ _ => false
  | .movIndInd _ _ => false
  | .movIndIncInd _ _ => false
  | .movIndIndInc _ _ => false
  | .movRwDisp _ _ _ => false
  | .movDispRw _ _ _ => false
  | .movIndMem _ _ => false
  | .movMemInd _ _ => false
  | .movRegMem _ _ => false
  | .movMemReg _ _ => false
  | .movbRbRb _ _ => false
  | .movbRbData4 _ _ => false
  | .movbRegData8 _ _ => false
  | .movbRbInd _ _ => false
  | .movbRbIndInc _ _ => false
  | .movbIndRb _ _ => false
  | .movbPreDecRb _ _ => false
  | .movbIndInd _ _ => false
  | .movbIndIncInd _ _ => false
  | .movbIndIndInc _ _ => false
  | .movbRbDisp _ _ _ => false
  | .movbDispRb _ _ _ => false
  | .movbIndMem _ _ => false
  | .movbMemInd _ _ => false
  | .movbRegMem _ _ => false
  | .movbMemReg _ _ => false
  | .movbsRwRb _ _ => false
  | .movbsRegMem _ _ => false
  | .movbsMemReg _ _ => false
  | .movbzRwRb _ _ => false
  | .movbzRegMem _ _ => false
  | .movbzMemReg _ _ => false
  | .jmpa _ _ => false
  | .jmpi _ _ => false
  | .jmpr _ _ => false
  | .jmps _ _ => false
  | .jb _ _ _ => false
  | .jbc _ _ _ => false
  | .jnb _ _ _ => false
  | .jnbs _ _ _ => false
  | .calla _ _ => false
  | .calli _ _ => false
  | .callr _ => false
  | .calls _ _ => false
  | .pcall _ _ => false
  | .trap _ => false
  | .pop _ => false
  | .push _ => false
  | .scxtRegData16 _ _ => false
  | .scxtRegMem _ _ => false
  | .ret => false
  | .rets => false
  | .retp _ => false
  | .reti => false
  | .srst => false
  | .idle => false
  | .pwrdn => false
  | .srvwdt => false
  | .diswdt => false
  | .einit => false
  | .atomic _ => true
  | .extr _ => true
  | .extpRw _ _ => true
  | .extpPag _ _ => true
  | .extprRw _ _ => true
  | .extprPag _ _ => true
  | .extsRw _ _ => true
  | .extsSeg _ _ => true
  | .extsrRw _ _ => true
  | .extsrSeg _ _ => true
  | .nop => false

/-- An instruction is well formed on a device when the device has it: the ATOMIC and EXTended instructions exist only on
the C167 group (47_system_control.md R398). -/
def Instr.wellFormed (v : Variant) (i : Instr) : Bool := v.hasExt || !i.isStarter

/-- `Instr.wellFormed` as a proposition. -/
abbrev WellFormed (v : Variant) (i : Instr) : Prop := i.wellFormed v = true

end Sys2Proof
end

