-- ==== Sys2Proof/Decode.lean ====
section
/-! DEFINITION. The decoder, total on any bytes (30_encoding.md R120 to R155), and after it the encoder, written from
the same format strings (R124). An instruction is two or four bytes in rising address order; `hi` and `lo` are the
nibbles of a byte as a format string prints them (R121). -/

namespace Sys2Proof

/-- Why bytes are no instruction. -/
inductive DecodeError where
  /-- The first byte is no instruction's (30_encoding.md R150, R151). -/
  | undefinedOpcode
  /-- A protected instruction's first byte, the other three not as required (30_encoding.md R153). -/
  | protectionFault
  /-- A fixed bit after the first byte is violated (30_encoding.md R152). -/
  | noSuchEncoding
  /-- The bytes end before the instruction does. -/
  | truncated
deriving DecidableEq, Repr

/-- The high nibble of a byte (30_encoding.md R121). -/
def hi (b : Byte) : Nib := b.extractLsb' 4 4

/-- The low nibble of a byte (30_encoding.md R121). -/
def lo (b : Byte) : Nib := b.extractLsb' 0 4

/-- The low byte of a word (20_memory.md R70). -/
def lowByte (w : Word) : Byte := w.extractLsb' 0 8

/-- The high byte of a word (20_memory.md R70). -/
def highByte (w : Word) : Byte := w.extractLsb' 8 8

/-- The length in bytes, which the first byte alone decides (30_encoding.md R122). -/
def lengthOf (b0 : Byte) : Nat :=
  match (lo b0).toNat with
  | 0x2 | 0x3 | 0x4 | 0x5 | 0x6 | 0x7 | 0xA => 4
  | _ => 2

/-- The twenty first bytes without an instruction (30_encoding.md R150). -/
def undefinedOpcodes : List Byte :=
  [0x3B, 0x44, 0x45, 0x83, 0x85, 0x8B, 0x8C, 0x93, 0x95, 0xA3, 0xB3, 0xC1, 0xC3, 0xC7, 0xD3, 0xE3, 0xE5, 0xF5, 0xF8,
   0xF9]

/-- The first bytes of the ATOMIC and EXTended instructions (30_encoding.md R151). -/
def extOpcodes : List Byte := [0xD1, 0xD7, 0xDC]

/-- The first byte is an undefined opcode on this device (30_encoding.md R150, R151). -/
def undefinedFirst (v : Variant) (b0 : Byte) : Bool :=
  undefinedOpcodes.contains b0 || (!v.hasExt && extOpcodes.contains b0)

/-- The first bytes of the protected instructions (30_encoding.md R153). -/
def protectedOpcodes : List Byte := [0x87, 0x97, 0xA5, 0xA7, 0xB5, 0xB7]

/-- Column x0 of the opcode map (30_encoding.md R131, R132, R133); `h` is the row. -/
def column0 (h : Nib) (b1 : Byte) : Option Instr :=
  match h.toNat with
  | 0x0 => some (.addRwRw (hi b1) (lo b1))
  | 0x1 => some (.addcRwRw (hi b1) (lo b1))
  | 0x2 => some (.subRwRw (hi b1) (lo b1))
  | 0x3 => some (.subcRwRw (hi b1) (lo b1))
  | 0x4 => some (.cmpRwRw (hi b1) (lo b1))
  | 0x5 => some (.xorRwRw (hi b1) (lo b1))
  | 0x6 => some (.andRwRw (hi b1) (lo b1))
  | 0x7 => some (.orRwRw (hi b1) (lo b1))
  | 0x8 => some (.cmpi1RwData4 (lo b1) (hi b1))
  | 0x9 => some (.cmpi2RwData4 (lo b1) (hi b1))
  | 0xA => some (.cmpd1RwData4 (lo b1) (hi b1))
  | 0xB => some (.cmpd2RwData4 (lo b1) (hi b1))
  | 0xC => some (.movbzRwRb (lo b1) (hi b1))
  | 0xD => some (.movbsRwRb (lo b1) (hi b1))
  | 0xE => some (.movRwData4 (lo b1) (hi b1))
  | _ => some (.movRwRw (hi b1) (lo b1))

/-- Column x1 of the opcode map (30_encoding.md R131, R132, R133); `h` is the row. -/
def column1 (h : Nib) (b1 : Byte) : Option Instr :=
  match h.toNat with
  | 0x0 => some (.addbRbRb (hi b1) (lo b1))
  | 0x1 => some (.addcbRbRb (hi b1) (lo b1))
  | 0x2 => some (.subbRbRb (hi b1) (lo b1))
  | 0x3 => some (.subcbRbRb (hi b1) (lo b1))
  | 0x4 => some (.cmpbRbRb (hi b1) (lo b1))
  | 0x5 => some (.xorbRbRb (hi b1) (lo b1))
  | 0x6 => some (.andbRbRb (hi b1) (lo b1))
  | 0x7 => some (.orbRbRb (hi b1) (lo b1))
  | 0x8 =>
      if lo b1 = 0 then some (.neg (hi b1))
      else none
  | 0x9 =>
      if lo b1 = 0 then some (.cpl (hi b1))
      else none
  | 0xA =>
      if lo b1 = 0 then some (.negb (hi b1))
      else none
  | 0xB =>
      if lo b1 = 0 then some (.cplb (hi b1))
      else none
  | 0xD =>
      if b1.extractLsb' 6 2 = 0 ∧ lo b1 = 0 then some (.atomic (b1.extractLsb' 4 2))
      else if b1.extractLsb' 6 2 = 2 ∧ lo b1 = 0 then some (.extr (b1.extractLsb' 4 2))
      else none
  | 0xE => some (.movbRbData4 (lo b1) (hi b1))
  | 0xF => some (.movbRbRb (hi b1) (lo b1))
  | _ => none

/-- Column x2 of the opcode map (30_encoding.md R131, R132, R133); `h` is the row. -/
def column2 (h : Nib) (b1 b2 b3 : Byte) : Option Instr :=
  match h.toNat with
  | 0x0 => some (.addRegMem b1 (b3 ++ b2))
  | 0x1 => some (.addcRegMem b1 (b3 ++ b2))
  | 0x2 => some (.subRegMem b1 (b3 ++ b2))
  | 0x3 => some (.subcRegMem b1 (b3 ++ b2))
  | 0x4 => some (.cmpRegMem b1 (b3 ++ b2))
  | 0x5 => some (.xorRegMem b1 (b3 ++ b2))
  | 0x6 => some (.andRegMem b1 (b3 ++ b2))
  | 0x7 => some (.orRegMem b1 (b3 ++ b2))
  | 0x8 =>
      if hi b1 = 0xF then some (.cmpi1RwMem (lo b1) (b3 ++ b2))
      else none
  | 0x9 =>
      if hi b1 = 0xF then some (.cmpi2RwMem (lo b1) (b3 ++ b2))
      else none
  | 0xA =>
      if hi b1 = 0xF then some (.cmpd1RwMem (lo b1) (b3 ++ b2))
      else none
  | 0xB =>
      if hi b1 = 0xF then some (.cmpd2RwMem (lo b1) (b3 ++ b2))
      else none
  | 0xC => some (.movbzRegMem b1 (b3 ++ b2))
  | 0xD => some (.movbsRegMem b1 (b3 ++ b2))
  | 0xE => some (.pcall b1 (b3 ++ b2))
  | _ => some (.movRegMem b1 (b3 ++ b2))

/-- Column x3 of the opcode map (30_encoding.md R131, R132, R133); `h` is the row. -/
def column3 (h : Nib) (b1 b2 b3 : Byte) : Option Instr :=
  match h.toNat with
  | 0x0 => some (.addbRegMem b1 (b3 ++ b2))
  | 0x1 => some (.addcbRegMem b1 (b3 ++ b2))
  | 0x2 => some (.subbRegMem b1 (b3 ++ b2))
  | 0x3 => some (.subcbRegMem b1 (b3 ++ b2))
  | 0x4 => some (.cmpbRegMem b1 (b3 ++ b2))
  | 0x5 => some (.xorbRegMem b1 (b3 ++ b2))
  | 0x6 => some (.andbRegMem b1 (b3 ++ b2))
  | 0x7 => some (.orbRegMem b1 (b3 ++ b2))
  | 0xF => some (.movbRegMem b1 (b3 ++ b2))
  | _ => none

/-- Column x4 of the opcode map (30_encoding.md R131, R132, R133); `h` is the row. -/
def column4 (h : Nib) (b1 b2 b3 : Byte) : Option Instr :=
  match h.toNat with
  | 0x0 => some (.addMemReg (b3 ++ b2) b1)
  | 0x1 => some (.addcMemReg (b3 ++ b2) b1)
  | 0x2 => some (.subMemReg (b3 ++ b2) b1)
  | 0x3 => some (.subcMemReg (b3 ++ b2) b1)
  | 0x5 => some (.xorMemReg (b3 ++ b2) b1)
  | 0x6 => some (.andMemReg (b3 ++ b2) b1)
  | 0x7 => some (.orMemReg (b3 ++ b2) b1)
  | 0x8 =>
      if hi b1 = 0 then some (.movIndMem (lo b1) (b3 ++ b2))
      else none
  | 0x9 =>
      if hi b1 = 0 then some (.movMemInd (b3 ++ b2) (lo b1))
      else none
  | 0xA =>
      if hi b1 = 0 then some (.movbIndMem (lo b1) (b3 ++ b2))
      else none
  | 0xB =>
      if hi b1 = 0 then some (.movbMemInd (b3 ++ b2) (lo b1))
      else none
  | 0xC => some (.movDispRw (lo b1) (b3 ++ b2) (hi b1))
  | 0xD => some (.movRwDisp (hi b1) (lo b1) (b3 ++ b2))
  | 0xE => some (.movbDispRb (lo b1) (b3 ++ b2) (hi b1))
  | 0xF => some (.movbRbDisp (hi b1) (lo b1) (b3 ++ b2))
  | _ => none

/-- Column x5 of the opcode map (30_encoding.md R131, R132, R133); `h` is the row. -/
def column5 (h : Nib) (b1 b2 b3 : Byte) : Option Instr :=
  match h.toNat with
  | 0x0 => some (.addbMemReg (b3 ++ b2) b1)
  | 0x1 => some (.addcbMemReg (b3 ++ b2) b1)
  | 0x2 => some (.subbMemReg (b3 ++ b2) b1)
  | 0x3 => some (.subcbMemReg (b3 ++ b2) b1)
  | 0x5 => some (.xorbMemReg (b3 ++ b2) b1)
  | 0x6 => some (.andbMemReg (b3 ++ b2) b1)
  | 0x7 => some (.orbMemReg (b3 ++ b2) b1)
  | 0xA =>
      if b1 = 0x5A ∧ b2 = 0xA5 ∧ b3 = 0xA5 then some .diswdt
      else none
  | 0xB =>
      if b1 = 0x4A ∧ b2 = 0xB5 ∧ b3 = 0xB5 then some .einit
      else none
  | 0xC => some (.movbzMemReg (b3 ++ b2) b1)
  | 0xD => some (.movbsMemReg (b3 ++ b2) b1)
  | _ => none

/-- Column x6 of the opcode map (30_encoding.md R131, R132, R133); `h` is the row. -/
def column6 (h : Nib) (b1 b2 b3 : Byte) : Option Instr :=
  match h.toNat with
  | 0x0 => some (.addRegData16 b1 (b3 ++ b2))
  | 0x1 => some (.addcRegData16 b1 (b3 ++ b2))
  | 0x2 => some (.subRegData16 b1 (b3 ++ b2))
  | 0x3 => some (.subcRegData16 b1 (b3 ++ b2))
  | 0x4 => some (.cmpRegData16 b1 (b3 ++ b2))
  | 0x5 => some (.xorRegData16 b1 (b3 ++ b2))
  | 0x6 => some (.andRegData16 b1 (b3 ++ b2))
  | 0x7 => some (.orRegData16 b1 (b3 ++ b2))
  | 0x8 =>
      if hi b1 = 0xF then some (.cmpi1RwData16 (lo b1) (b3 ++ b2))
      else none
  | 0x9 =>
      if hi b1 = 0xF then some (.cmpi2RwData16 (lo b1) (b3 ++ b2))
      else none
  | 0xA =>
      if hi b1 = 0xF then some (.cmpd1RwData16 (lo b1) (b3 ++ b2))
      else none
  | 0xB =>
      if hi b1 = 0xF then some (.cmpd2RwData16 (lo b1) (b3 ++ b2))
      else none
  | 0xC => some (.scxtRegData16 b1 (b3 ++ b2))
  | 0xD => some (.scxtRegMem b1 (b3 ++ b2))
  | 0xE => some (.movRegData16 b1 (b3 ++ b2))
  | _ => some (.movMemReg (b3 ++ b2) b1)

/-- Column x7 of the opcode map (30_encoding.md R131, R132, R133); `h` is the row. -/
def column7 (h : Nib) (b1 b2 b3 : Byte) : Option Instr :=
  match h.toNat with
  | 0x0 => some (.addbRegData8 b1 b2)
  | 0x1 => some (.addcbRegData8 b1 b2)
  | 0x2 => some (.subbRegData8 b1 b2)
  | 0x3 => some (.subcbRegData8 b1 b2)
  | 0x4 => some (.cmpbRegData8 b1 b2)
  | 0x5 => some (.xorbRegData8 b1 b2)
  | 0x6 => some (.andbRegData8 b1 b2)
  | 0x7 => some (.orbRegData8 b1 b2)
  | 0x8 =>
      if b1 = 0x78 ∧ b2 = 0x87 ∧ b3 = 0x87 then some .idle
      else none
  | 0x9 =>
      if b1 = 0x68 ∧ b2 = 0x97 ∧ b3 = 0x97 then some .pwrdn
      else none
  | 0xA =>
      if b1 = 0x58 ∧ b2 = 0xA7 ∧ b3 = 0xA7 then some .srvwdt
      else none
  | 0xB =>
      if b1 = 0x48 ∧ b2 = 0xB7 ∧ b3 = 0xB7 then some .srst
      else none
  | 0xD =>
      if b1.extractLsb' 6 2 = 1 ∧ lo b1 = 0 ∧ b3.extractLsb' 2 6 = 0 then some (.extpPag (b3.extractLsb' 0 2 ++ b2) (b1.extractLsb' 4 2))
      else if b1.extractLsb' 6 2 = 3 ∧ lo b1 = 0 ∧ b3.extractLsb' 2 6 = 0 then some (.extprPag (b3.extractLsb' 0 2 ++ b2) (b1.extractLsb' 4 2))
      else if b1.extractLsb' 6 2 = 0 ∧ lo b1 = 0 ∧ b3 = 0x00 then some (.extsSeg b2 (b1.extractLsb' 4 2))
      else if b1.extractLsb' 6 2 = 2 ∧ lo b1 = 0 ∧ b3 = 0x00 then some (.extsrSeg b2 (b1.extractLsb' 4 2))
      else none
  | 0xE => some (.movbRegData8 b1 b2)
  | 0xF => some (.movbMemReg (b3 ++ b2) b1)
  | _ => none

/-- Column x8 of the opcode map (30_encoding.md R131, R132, R133); `h` is the row. -/
def column8 (h : Nib) (b1 : Byte) : Option Instr :=
  match h.toNat with
  | 0x0 =>
      if b1.extractLsb' 2 2 = 2 then some (.addRwInd (hi b1) (b1.extractLsb' 0 2))
      else if b1.extractLsb' 2 2 = 3 then some (.addRwIndInc (hi b1) (b1.extractLsb' 0 2))
      else if b1.extractLsb' 3 1 = 0 then some (.addRwData3 (hi b1) (b1.extractLsb' 0 3))
      else none
  | 0x1 =>
      if b1.extractLsb' 2 2 = 2 then some (.addcRwInd (hi b1) (b1.extractLsb' 0 2))
      else if b1.extractLsb' 2 2 = 3 then some (.addcRwIndInc (hi b1) (b1.extractLsb' 0 2))
      else if b1.extractLsb' 3 1 = 0 then some (.addcRwData3 (hi b1) (b1.extractLsb' 0 3))
      else none
  | 0x2 =>
      if b1.extractLsb' 2 2 = 2 then some (.subRwInd (hi b1) (b1.extractLsb' 0 2))
      else if b1.extractLsb' 2 2 = 3 then some (.subRwIndInc (hi b1) (b1.extractLsb' 0 2))
      else if b1.extractLsb' 3 1 = 0 then some (.subRwData3 (hi b1) (b1.extractLsb' 0 3))
      else none
  | 0x3 =>
      if b1.extractLsb' 2 2 = 2 then some (.subcRwInd (hi b1) (b1.extractLsb' 0 2))
      else if b1.extractLsb' 2 2 = 3 then some (.subcRwIndInc (hi b1) (b1.extractLsb' 0 2))
      else if b1.extractLsb' 3 1 = 0 then some (.subcRwData3 (hi b1) (b1.extractLsb' 0 3))
      else none
  | 0x4 =>
      if b1.extractLsb' 2 2 = 2 then some (.cmpRwInd (hi b1) (b1.extractLsb' 0 2))
      else if b1.extractLsb' 2 2 = 3 then some (.cmpRwIndInc (hi b1) (b1.extractLsb' 0 2))
      else if b1.extractLsb' 3 1 = 0 then some (.cmpRwData3 (hi b1) (b1.extractLsb' 0 3))
      else none
  | 0x5 =>
      if b1.extractLsb' 2 2 = 2 then some (.xorRwInd (hi b1) (b1.extractLsb' 0 2))
      else if b1.extractLsb' 2 2 = 3 then some (.xorRwIndInc (hi b1) (b1.extractLsb' 0 2))
      else if b1.extractLsb' 3 1 = 0 then some (.xorRwData3 (hi b1) (b1.extractLsb' 0 3))
      else none
  | 0x6 =>
      if b1.extractLsb' 2 2 = 2 then some (.andRwInd (hi b1) (b1.extractLsb' 0 2))
      else if b1.extractLsb' 2 2 = 3 then some (.andRwIndInc (hi b1) (b1.extractLsb' 0 2))
      else if b1.extractLsb' 3 1 = 0 then some (.andRwData3 (hi b1) (b1.extractLsb' 0 3))
      else none
  | 0x7 =>
      if b1.extractLsb' 2 2 = 2 then some (.orRwInd (hi b1) (b1.extractLsb' 0 2))
      else if b1.extractLsb' 2 2 = 3 then some (.orRwIndInc (hi b1) (b1.extractLsb' 0 2))
      else if b1.extractLsb' 3 1 = 0 then some (.orRwData3 (hi b1) (b1.extractLsb' 0 3))
      else none
  | 0x8 => some (.movPreDecRw (lo b1) (hi b1))
  | 0x9 => some (.movRwIndInc (hi b1) (lo b1))
  | 0xA => some (.movRwInd (hi b1) (lo b1))
  | 0xB => some (.movIndRw (lo b1) (hi b1))
  | 0xC => some (.movIndInd (hi b1) (lo b1))
  | 0xD => some (.movIndIncInd (hi b1) (lo b1))
  | 0xE => some (.movIndIndInc (hi b1) (lo b1))
  | _ => none

/-- Column x9 of the opcode map (30_encoding.md R131, R132, R133); `h` is the row. -/
def column9 (h : Nib) (b1 : Byte) : Option Instr :=
  match h.toNat with
  | 0x0 =>
      if b1.extractLsb' 2 2 = 2 then some (.addbRbInd (hi b1) (b1.extractLsb' 0 2))
      else if b1.extractLsb' 2 2 = 3 then some (.addbRbIndInc (hi b1) (b1.extractLsb' 0 2))
      else if b1.extractLsb' 3 1 = 0 then some (.addbRbData3 (hi b1) (b1.extractLsb' 0 3))
      else none
  | 0x1 =>
      if b1.extractLsb' 2 2 = 2 then some (.addcbRbInd (hi b1) (b1.extractLsb' 0 2))
      else if b1.extractLsb' 2 2 = 3 then some (.addcbRbIndInc (hi b1) (b1.extractLsb' 0 2))
      else if b1.extractLsb' 3 1 = 0 then some (.addcbRbData3 (hi b1) (b1.extractLsb' 0 3))
      else none
  | 0x2 =>
      if b1.extractLsb' 2 2 = 2 then some (.subbRbInd (hi b1) (b1.extractLsb' 0 2))
      else if b1.extractLsb' 2 2 = 3 then some (.subbRbIndInc (hi b1) (b1.extractLsb' 0 2))
      else if b1.extractLsb' 3 1 = 0 then some (.subbRbData3 (hi b1) (b1.extractLsb' 0 3))
      else none
  | 0x3 =>
      if b1.extractLsb' 2 2 = 2 then some (.subcbRbInd (hi b1) (b1.extractLsb' 0 2))
      else if b1.extractLsb' 2 2 = 3 then some (.subcbRbIndInc (hi b1) (b1.extractLsb' 0 2))
      else if b1.extractLsb' 3 1 = 0 then some (.subcbRbData3 (hi b1) (b1.extractLsb' 0 3))
      else none
  | 0x4 =>
      if b1.extractLsb' 2 2 = 2 then some (.cmpbRbInd (hi b1) (b1.extractLsb' 0 2))
      else if b1.extractLsb' 2 2 = 3 then some (.cmpbRbIndInc (hi b1) (b1.extractLsb' 0 2))
      else if b1.extractLsb' 3 1 = 0 then some (.cmpbRbData3 (hi b1) (b1.extractLsb' 0 3))
      else none
  | 0x5 =>
      if b1.extractLsb' 2 2 = 2 then some (.xorbRbInd (hi b1) (b1.extractLsb' 0 2))
      else if b1.extractLsb' 2 2 = 3 then some (.xorbRbIndInc (hi b1) (b1.extractLsb' 0 2))
      else if b1.extractLsb' 3 1 = 0 then some (.xorbRbData3 (hi b1) (b1.extractLsb' 0 3))
      else none
  | 0x6 =>
      if b1.extractLsb' 2 2 = 2 then some (.andbRbInd (hi b1) (b1.extractLsb' 0 2))
      else if b1.extractLsb' 2 2 = 3 then some (.andbRbIndInc (hi b1) (b1.extractLsb' 0 2))
      else if b1.extractLsb' 3 1 = 0 then some (.andbRbData3 (hi b1) (b1.extractLsb' 0 3))
      else none
  | 0x7 =>
      if b1.extractLsb' 2 2 = 2 then some (.orbRbInd (hi b1) (b1.extractLsb' 0 2))
      else if b1.extractLsb' 2 2 = 3 then some (.orbRbIndInc (hi b1) (b1.extractLsb' 0 2))
      else if b1.extractLsb' 3 1 = 0 then some (.orbRbData3 (hi b1) (b1.extractLsb' 0 3))
      else none
  | 0x8 => some (.movbPreDecRb (lo b1) (hi b1))
  | 0x9 => some (.movbRbIndInc (hi b1) (lo b1))
  | 0xA => some (.movbRbInd (hi b1) (lo b1))
  | 0xB => some (.movbIndRb (lo b1) (hi b1))
  | 0xC => some (.movbIndInd (hi b1) (lo b1))
  | 0xD => some (.movbIndIncInd (hi b1) (lo b1))
  | 0xE => some (.movbIndIndInc (hi b1) (lo b1))
  | _ => none

/-- Column xA of the opcode map (30_encoding.md R131, R132, R133); `h` is the row. -/
def columnA (h : Nib) (b1 b2 b3 : Byte) : Option Instr :=
  match h.toNat with
  | 0x0 => some (.bfldl b1 b2 b3)
  | 0x1 => some (.bfldh b1 b3 b2)
  | 0x2 => some (.bcmp b2 (lo b3) b1 (hi b3))
  | 0x3 => some (.bmovn b2 (lo b3) b1 (hi b3))
  | 0x4 => some (.bmov b2 (lo b3) b1 (hi b3))
  | 0x5 => some (.bor b2 (lo b3) b1 (hi b3))
  | 0x6 => some (.band b2 (lo b3) b1 (hi b3))
  | 0x7 => some (.bxor b2 (lo b3) b1 (hi b3))
  | 0x8 =>
      if lo b3 = 0 then some (.jb b1 (hi b3) b2)
      else none
  | 0x9 =>
      if lo b3 = 0 then some (.jnb b1 (hi b3) b2)
      else none
  | 0xA =>
      if lo b3 = 0 then some (.jbc b1 (hi b3) b2)
      else none
  | 0xB =>
      if lo b3 = 0 then some (.jnbs b1 (hi b3) b2)
      else none
  | 0xC =>
      if lo b1 = 0 then some (.calla (hi b1) (b3 ++ b2))
      else none
  | 0xD => some (.calls b1 (b3 ++ b2))
  | 0xE =>
      if lo b1 = 0 then some (.jmpa (hi b1) (b3 ++ b2))
      else none
  | _ => some (.jmps b1 (b3 ++ b2))

/-- Column xB of the opcode map (30_encoding.md R131, R132, R133); `h` is the row. -/
def columnB (h : Nib) (b1 : Byte) : Option Instr :=
  match h.toNat with
  | 0x0 => some (.mul (hi b1) (lo b1))
  | 0x1 => some (.mulu (hi b1) (lo b1))
  | 0x2 => some (.prior (hi b1) (lo b1))
  | 0x4 =>
      if lo b1 = hi b1 then some (.div (hi b1))
      else none
  | 0x5 =>
      if lo b1 = hi b1 then some (.divu (hi b1))
      else none
  | 0x6 =>
      if lo b1 = hi b1 then some (.divl (hi b1))
      else none
  | 0x7 =>
      if lo b1 = hi b1 then some (.divlu (hi b1))
      else none
  | 0x9 =>
      if b1.extractLsb' 0 1 = 0 then some (.trap (b1.extractLsb' 1 7))
      else none
  | 0xA => some (.calli (hi b1) (lo b1))
  | 0xB => some (.callr b1)
  | 0xC =>
      if b1 = 0x00 then some .ret
      else none
  | 0xD =>
      if b1 = 0x00 then some .rets
      else none
  | 0xE => some (.retp b1)
  | 0xF =>
      if b1 = 0x88 then some .reti
      else none
  | _ => none

/-- Column xC of the opcode map (30_encoding.md R131, R132, R133); `h` is the row. -/
def columnC (h : Nib) (b1 : Byte) : Option Instr :=
  match h.toNat with
  | 0x0 => some (.rolRwRw (hi b1) (lo b1))
  | 0x1 => some (.rolRwData4 (lo b1) (hi b1))
  | 0x2 => some (.rorRwRw (hi b1) (lo b1))
  | 0x3 => some (.rorRwData4 (lo b1) (hi b1))
  | 0x4 => some (.shlRwRw (hi b1) (lo b1))
  | 0x5 => some (.shlRwData4 (lo b1) (hi b1))
  | 0x6 => some (.shrRwRw (hi b1) (lo b1))
  | 0x7 => some (.shrRwData4 (lo b1) (hi b1))
  | 0x9 => some (.jmpi (hi b1) (lo b1))
  | 0xA => some (.ashrRwRw (hi b1) (lo b1))
  | 0xB => some (.ashrRwData4 (lo b1) (hi b1))
  | 0xC =>
      if b1 = 0x00 then some .nop
      else none
  | 0xD =>
      if b1.extractLsb' 6 2 = 1 then some (.extpRw (lo b1) (b1.extractLsb' 4 2))
      else if b1.extractLsb' 6 2 = 3 then some (.extprRw (lo b1) (b1.extractLsb' 4 2))
      else if b1.extractLsb' 6 2 = 0 then some (.extsRw (lo b1) (b1.extractLsb' 4 2))
      else if b1.extractLsb' 6 2 = 2 then some (.extsrRw (lo b1) (b1.extractLsb' 4 2))
      else none
  | 0xE => some (.push b1)
  | 0xF => some (.pop b1)
  | _ => none

/-- Column xD of the opcode map (30_encoding.md R131, R132, R133); `h` is the row. -/
def columnD (b0 b1 : Byte) : Option Instr := some (.jmpr (hi b0) b1)

/-- Column xE of the opcode map (30_encoding.md R131, R132, R133); `h` is the row. -/
def columnE (b0 b1 : Byte) : Option Instr := some (.bclr b1 (hi b0))

/-- Column xF of the opcode map (30_encoding.md R131, R132, R133); `h` is the row. -/
def columnF (b0 b1 : Byte) : Option Instr := some (.bset b1 (hi b0))

/-- The row of the opcode table that four bytes match, of which a two-byte instruction uses the first two
(30_encoding.md R131, R132). -/
def rowOf (b0 b1 b2 b3 : Byte) : Option Instr :=
  match (lo b0).toNat with
  | 0x0 => column0 (hi b0) b1
  | 0x1 => column1 (hi b0) b1
  | 0x2 => column2 (hi b0) b1 b2 b3
  | 0x3 => column3 (hi b0) b1 b2 b3
  | 0x4 => column4 (hi b0) b1 b2 b3
  | 0x5 => column5 (hi b0) b1 b2 b3
  | 0x6 => column6 (hi b0) b1 b2 b3
  | 0x7 => column7 (hi b0) b1 b2 b3
  | 0x8 => column8 (hi b0) b1
  | 0x9 => column9 (hi b0) b1
  | 0xA => columnA (hi b0) b1 b2 b3
  | 0xB => columnB (hi b0) b1
  | 0xC => columnC (hi b0) b1
  | 0xD => columnD b0 b1
  | 0xE => columnE b0 b1
  | _ => columnF b0 b1

/-- The instruction that four bytes hold, of which a two-byte instruction uses the first two. -/
def decodeBytes (v : Variant) (b0 b1 b2 b3 : Byte) : Except DecodeError Instr :=
  if undefinedFirst v b0 then .error .undefinedOpcode
  else
    match rowOf b0 b1 b2 b3 with
    | some i => .ok i
    | none => .error (if protectedOpcodes.contains b0 then .protectionFault else .noSuchEncoding)

/-- The instruction at the front of a list of bytes, with the bytes after it. -/
def decode (v : Variant) (bytes : List Byte) : Except DecodeError (Instr × List Byte) :=
  match bytes with
  | b0 :: b1 :: rest =>
    if undefinedFirst v b0 then .error .undefinedOpcode
    else if lengthOf b0 = 2 then (decodeBytes v b0 b1 0 0).map (·, rest)
    else
      match rest with
      | b2 :: b3 :: rest' => (decodeBytes v b0 b1 b2 b3).map (·, rest')
      | _ => .error .truncated
  | _ => .error .truncated

/-- Byte k of an instruction given as one little-endian number (30_encoding.md R121). -/
def byteOfNumber (w k : Nat) : Byte := BitVec.ofNat 8 (w / 2 ^ (8 * k))

/-- The instruction that the decoder reads from the opcode table's integer view of `nbits` bits (30_encoding.md R121),
on a device that has every instruction. -/
def decodeTableWord (nbits w : Nat) : Option Instr :=
  let x := w % 2 ^ nbits
  match decode .c167 [byteOfNumber x 0, byteOfNumber x 1, byteOfNumber x 2, byteOfNumber x 3] with
  | .ok (i, _) => some i
  | .error _ => none

/-- The bytes of an instruction in rising address order (30_encoding.md R124). The byte `xx` that is not significant is
written 00H (R126). -/
def encode : Instr → List Byte
  | .addRwRw n m => [0x00, n ++ m]
  | .addRwInd n i => [0x08, n ++ (0b10#2 ++ i)]
  | .addRwIndInc n i => [0x08, n ++ (0b11#2 ++ i)]
  | .addRwData3 n data3 => [0x08, n ++ (0#1 ++ data3)]
  | .addRegData16 reg data16 => [0x06, reg, lowByte data16, highByte data16]
  | .addRegMem reg mem => [0x02, reg, lowByte mem, highByte mem]
  | .addMemReg mem reg => [0x04, reg, lowByte mem, highByte mem]
  | .addbRbRb n m => [0x01, n ++ m]
  | .addbRbInd n i => [0x09, n ++ (0b10#2 ++ i)]
  | .addbRbIndInc n i => [0x09, n ++ (0b11#2 ++ i)]
  | .addbRbData3 n data3 => [0x09, n ++ (0#1 ++ data3)]
  | .addbRegData8 reg data8 => [0x07, reg, data8, 0x00]
  | .addbRegMem reg mem => [0x03, reg, lowByte mem, highByte mem]
  | .addbMemReg mem reg => [0x05, reg, lowByte mem, highByte mem]
  | .addcRwRw n m => [0x10, n ++ m]
  | .addcRwInd n i => [0x18, n ++ (0b10#2 ++ i)]
  | .addcRwIndInc n i => [0x18, n ++ (0b11#2 ++ i)]
  | .addcRwData3 n data3 => [0x18, n ++ (0#1 ++ data3)]
  | .addcRegData16 reg data16 => [0x16, reg, lowByte data16, highByte data16]
  | .addcRegMem reg mem => [0x12, reg, lowByte mem, highByte mem]
  | .addcMemReg mem reg => [0x14, reg, lowByte mem, highByte mem]
  | .addcbRbRb n m => [0x11, n ++ m]
  | .addcbRbInd n i => [0x19, n ++ (0b10#2 ++ i)]
  | .addcbRbIndInc n i => [0x19, n ++ (0b11#2 ++ i)]
  | .addcbRbData3 n data3 => [0x19, n ++ (0#1 ++ data3)]
  | .addcbRegData8 reg data8 => [0x17, reg, data8, 0x00]
  | .addcbRegMem reg mem => [0x13, reg, lowByte mem, highByte mem]
  | .addcbMemReg mem reg => [0x15, reg, lowByte mem, highByte mem]
  | .subRwRw n m => [0x20, n ++ m]
  | .subRwInd n i => [0x28, n ++ (0b10#2 ++ i)]
  | .subRwIndInc n i => [0x28, n ++ (0b11#2 ++ i)]
  | .subRwData3 n data3 => [0x28, n ++ (0#1 ++ data3)]
  | .subRegData16 reg data16 => [0x26, reg, lowByte data16, highByte data16]
  | .subRegMem reg mem => [0x22, reg, lowByte mem, highByte mem]
  | .subMemReg mem reg => [0x24, reg, lowByte mem, highByte mem]
  | .subbRbRb n m => [0x21, n ++ m]
  | .subbRbInd n i => [0x29, n ++ (0b10#2 ++ i)]
  | .subbRbIndInc n i => [0x29, n ++ (0b11#2 ++ i)]
  | .subbRbData3 n data3 => [0x29, n ++ (0#1 ++ data3)]
  | .subbRegData8 reg data8 => [0x27, reg, data8, 0x00]
  | .subbRegMem reg mem => [0x23, reg, lowByte mem, highByte mem]
  | .subbMemReg mem reg => [0x25, reg, lowByte mem, highByte mem]
  | .subcRwRw n m => [0x30, n ++ m]
  | .subcRwInd n i => [0x38, n ++ (0b10#2 ++ i)]
  | .subcRwIndInc n i => [0x38, n ++ (0b11#2 ++ i)]
  | .subcRwData3 n data3 => [0x38, n ++ (0#1 ++ data3)]
  | .subcRegData16 reg data16 => [0x36, reg, lowByte data16, highByte data16]
  | .subcRegMem reg mem => [0x32, reg, lowByte mem, highByte mem]
  | .subcMemReg mem reg => [0x34, reg, lowByte mem, highByte mem]
  | .subcbRbRb n m => [0x31, n ++ m]
  | .subcbRbInd n i => [0x39, n ++ (0b10#2 ++ i)]
  | .subcbRbIndInc n i => [0x39, n ++ (0b11#2 ++ i)]
  | .subcbRbData3 n data3 => [0x39, n ++ (0#1 ++ data3)]
  | .subcbRegData8 reg data8 => [0x37, reg, data8, 0x00]
  | .subcbRegMem reg mem => [0x33, reg, lowByte mem, highByte mem]
  | .subcbMemReg mem reg => [0x35, reg, lowByte mem, highByte mem]
  | .cmpRwRw n m => [0x40, n ++ m]
  | .cmpRwInd n i => [0x48, n ++ (0b10#2 ++ i)]
  | .cmpRwIndInc n i => [0x48, n ++ (0b11#2 ++ i)]
  | .cmpRwData3 n data3 => [0x48, n ++ (0#1 ++ data3)]
  | .cmpRegData16 reg data16 => [0x46, reg, lowByte data16, highByte data16]
  | .cmpRegMem reg mem => [0x42, reg, lowByte mem, highByte mem]
  | .cmpbRbRb n m => [0x41, n ++ m]
  | .cmpbRbInd n i => [0x49, n ++ (0b10#2 ++ i)]
  | .cmpbRbIndInc n i => [0x49, n ++ (0b11#2 ++ i)]
  | .cmpbRbData3 n data3 => [0x49, n ++ (0#1 ++ data3)]
  | .cmpbRegData8 reg data8 => [0x47, reg, data8, 0x00]
  | .cmpbRegMem reg mem => [0x43, reg, lowByte mem, highByte mem]
  | .xorRwRw n m => [0x50, n ++ m]
  | .xorRwInd n i => [0x58, n ++ (0b10#2 ++ i)]
  | .xorRwIndInc n i => [0x58, n ++ (0b11#2 ++ i)]
  | .xorRwData3 n data3 => [0x58, n ++ (0#1 ++ data3)]
  | .xorRegData16 reg data16 => [0x56, reg, lowByte data16, highByte data16]
  | .xorRegMem reg mem => [0x52, reg, lowByte mem, highByte mem]
  | .xorMemReg mem reg => [0x54, reg, lowByte mem, highByte mem]
  | .xorbRbRb n m => [0x51, n ++ m]
  | .xorbRbInd n i => [0x59, n ++ (0b10#2 ++ i)]
  | .xorbRbIndInc n i => [0x59, n ++ (0b11#2 ++ i)]
  | .xorbRbData3 n data3 => [0x59, n ++ (0#1 ++ data3)]
  | .xorbRegData8 reg data8 => [0x57, reg, data8, 0x00]
  | .xorbRegMem reg mem => [0x53, reg, lowByte mem, highByte mem]
  | .xorbMemReg mem reg => [0x55, reg, lowByte mem, highByte mem]
  | .andRwRw n m => [0x60, n ++ m]
  | .andRwInd n i => [0x68, n ++ (0b10#2 ++ i)]
  | .andRwIndInc n i => [0x68, n ++ (0b11#2 ++ i)]
  | .andRwData3 n data3 => [0x68, n ++ (0#1 ++ data3)]
  | .andRegData16 reg data16 => [0x66, reg, lowByte data16, highByte data16]
  | .andRegMem reg mem => [0x62, reg, lowByte mem, highByte mem]
  | .andMemReg mem reg => [0x64, reg, lowByte mem, highByte mem]
  | .andbRbRb n m => [0x61, n ++ m]
  | .andbRbInd n i => [0x69, n ++ (0b10#2 ++ i)]
  | .andbRbIndInc n i => [0x69, n ++ (0b11#2 ++ i)]
  | .andbRbData3 n data3 => [0x69, n ++ (0#1 ++ data3)]
  | .andbRegData8 reg data8 => [0x67, reg, data8, 0x00]
  | .andbRegMem reg mem => [0x63, reg, lowByte mem, highByte mem]
  | .andbMemReg mem reg => [0x65, reg, lowByte mem, highByte mem]
  | .orRwRw n m => [0x70, n ++ m]
  | .orRwInd n i => [0x78, n ++ (0b10#2 ++ i)]
  | .orRwIndInc n i => [0x78, n ++ (0b11#2 ++ i)]
  | .orRwData3 n data3 => [0x78, n ++ (0#1 ++ data3)]
  | .orRegData16 reg data16 => [0x76, reg, lowByte data16, highByte data16]
  | .orRegMem reg mem => [0x72, reg, lowByte mem, highByte mem]
  | .orMemReg mem reg => [0x74, reg, lowByte mem, highByte mem]
  | .orbRbRb n m => [0x71, n ++ m]
  | .orbRbInd n i => [0x79, n ++ (0b10#2 ++ i)]
  | .orbRbIndInc n i => [0x79, n ++ (0b11#2 ++ i)]
  | .orbRbData3 n data3 => [0x79, n ++ (0#1 ++ data3)]
  | .orbRegData8 reg data8 => [0x77, reg, data8, 0x00]
  | .orbRegMem reg mem => [0x73, reg, lowByte mem, highByte mem]
  | .orbMemReg mem reg => [0x75, reg, lowByte mem, highByte mem]
  | .mul n m => [0x0B, n ++ m]
  | .mulu n m => [0x1B, n ++ m]
  | .div n => [0x4B, n ++ n]
  | .divl n => [0x6B, n ++ n]
  | .divlu n => [0x7B, n ++ n]
  | .divu n => [0x5B, n ++ n]
  | .cpl n => [0x91, n ++ 0#4]
  | .cplb n => [0xB1, n ++ 0#4]
  | .neg n => [0x81, n ++ 0#4]
  | .negb n => [0xA1, n ++ 0#4]
  | .bclr bitoff pos => [pos ++ 0xE#4, bitoff]
  | .bset bitoff pos => [pos ++ 0xF#4, bitoff]
  | .bmov dst dpos src spos => [0x4A, src, dst, spos ++ dpos]
  | .bmovn dst dpos src spos => [0x3A, src, dst, spos ++ dpos]
  | .band dst dpos src spos => [0x6A, src, dst, spos ++ dpos]
  | .bor dst dpos src spos => [0x5A, src, dst, spos ++ dpos]
  | .bxor dst dpos src spos => [0x7A, src, dst, spos ++ dpos]
  | .bcmp dst dpos src spos => [0x2A, src, dst, spos ++ dpos]
  | .bfldh bitoff mask8 data8 => [0x1A, bitoff, data8, mask8]
  | .bfldl bitoff mask8 data8 => [0x0A, bitoff, mask8, data8]
  | .cmpd1RwData4 n data4 => [0xA0, data4 ++ n]
  | .cmpd1RwData16 n data16 => [0xA6, 0xF#4 ++ n, lowByte data16, highByte data16]
  | .cmpd1RwMem n mem => [0xA2, 0xF#4 ++ n, lowByte mem, highByte mem]
  | .cmpd2RwData4 n data4 => [0xB0, data4 ++ n]
  | .cmpd2RwData16 n data16 => [0xB6, 0xF#4 ++ n, lowByte data16, highByte data16]
  | .cmpd2RwMem n mem => [0xB2, 0xF#4 ++ n, lowByte mem, highByte mem]
  | .cmpi1RwData4 n data4 => [0x80, data4 ++ n]
  | .cmpi1RwData16 n data16 => [0x86, 0xF#4 ++ n, lowByte data16, highByte data16]
  | .cmpi1RwMem n mem => [0x82, 0xF#4 ++ n, lowByte mem, highByte mem]
  | .cmpi2RwData4 n data4 => [0x90, data4 ++ n]
  | .cmpi2RwData16 n data16 => [0x96, 0xF#4 ++ n, lowByte data16, highByte data16]
  | .cmpi2RwMem n mem => [0x92, 0xF#4 ++ n, lowByte mem, highByte mem]
  | .prior n m => [0x2B, n ++ m]
  | .shlRwRw n m => [0x4C, n ++ m]
  | .shlRwData4 n data4 => [0x5C, data4 ++ n]
  | .shrRwRw n m => [0x6C, n ++ m]
  | .shrRwData4 n data4 => [0x7C, data4 ++ n]
  | .rolRwRw n m => [0x0C, n ++ m]
  | .rolRwData4 n data4 => [0x1C, data4 ++ n]
  | .rorRwRw n m => [0x2C, n ++ m]
  | .rorRwData4 n data4 => [0x3C, data4 ++ n]
  | .ashrRwRw n m => [0xAC, n ++ m]
  | .ashrRwData4 n data4 => [0xBC, data4 ++ n]
  | .movRwRw n m => [0xF0, n ++ m]
  | .movRwData4 n data4 => [0xE0, data4 ++ n]
  | .movRegData16 reg data16 => [0xE6, reg, lowByte data16, highByte data16]
  | .movRwInd n m => [0xA8, n ++ m]
  | .movRwIndInc n m => [0x98, n ++ m]
  | .movIndRw m n => [0xB8, n ++ m]
  | .movPreDecRw m n => [0x88, n ++ m]
  | .movIndInd n m => [0xC8, n ++ m]
  | .movIndIncInd n m => [0xD8, n ++ m]
  | .movIndIndInc n m => [0xE8, n ++ m]
  | .movRwDisp n m disp => [0xD4, n ++ m, lowByte disp, highByte disp]
  | .movDispRw m disp n => [0xC4, n ++ m, lowByte disp, highByte disp]
  | .movIndMem n mem => [0x84, 0x0#4 ++ n, lowByte mem, highByte mem]
  | .movMemInd mem n => [0x94, 0x0#4 ++ n, lowByte mem, highByte mem]
  | .movRegMem reg mem => [0xF2, reg, lowByte mem, highByte mem]
  | .movMemReg mem reg => [0xF6, reg, lowByte mem, highByte mem]
  | .movbRbRb n m => [0xF1, n ++ m]
  | .movbRbData4 n data4 => [0xE1, data4 ++ n]
  | .movbRegData8 reg data8 => [0xE7, reg, data8, 0x00]
  | .movbRbInd n m => [0xA9, n ++ m]
  | .movbRbIndInc n m => [0x99, n ++ m]
  | .movbIndRb m n => [0xB9, n ++ m]
  | .movbPreDecRb m n => [0x89, n ++ m]
  | .movbIndInd n m => [0xC9, n ++ m]
  | .movbIndIncInd n m => [0xD9, n ++ m]
  | .movbIndIndInc n m => [0xE9, n ++ m]
  | .movbRbDisp n m disp => [0xF4, n ++ m, lowByte disp, highByte disp]
  | .movbDispRb m disp n => [0xE4, n ++ m, lowByte disp, highByte disp]
  | .movbIndMem n mem => [0xA4, 0x0#4 ++ n, lowByte mem, highByte mem]
  | .movbMemInd mem n => [0xB4, 0x0#4 ++ n, lowByte mem, highByte mem]
  | .movbRegMem reg mem => [0xF3, reg, lowByte mem, highByte mem]
  | .movbMemReg mem reg => [0xF7, reg, lowByte mem, highByte mem]
  | .movbsRwRb n m => [0xD0, m ++ n]
  | .movbsRegMem reg mem => [0xD2, reg, lowByte mem, highByte mem]
  | .movbsMemReg mem reg => [0xD5, reg, lowByte mem, highByte mem]
  | .movbzRwRb n m => [0xC0, m ++ n]
  | .movbzRegMem reg mem => [0xC2, reg, lowByte mem, highByte mem]
  | .movbzMemReg mem reg => [0xC5, reg, lowByte mem, highByte mem]
  | .jmpa cc caddr => [0xEA, cc ++ 0#4, lowByte caddr, highByte caddr]
  | .jmpi cc n => [0x9C, cc ++ n]
  | .jmpr cc rel => [cc ++ 0xD#4, rel]
  | .jmps seg caddr => [0xFA, seg, lowByte caddr, highByte caddr]
  | .jb bitoff pos rel => [0x8A, bitoff, rel, pos ++ 0#4]
  | .jbc bitoff pos rel => [0xAA, bitoff, rel, pos ++ 0#4]
  | .jnb bitoff pos rel => [0x9A, bitoff, rel, pos ++ 0#4]
  | .jnbs bitoff pos rel => [0xBA, bitoff, rel, pos ++ 0#4]
  | .calla cc caddr => [0xCA, cc ++ 0#4, lowByte caddr, highByte caddr]
  | .calli cc n => [0xAB, cc ++ n]
  | .callr rel => [0xBB, rel]
  | .calls seg caddr => [0xDA, seg, lowByte caddr, highByte caddr]
  | .pcall reg caddr => [0xE2, reg, lowByte caddr, highByte caddr]
  | .trap trap7 => [0x9B, trap7 ++ 0#1]
  | .pop reg => [0xFC, reg]
  | .push reg => [0xEC, reg]
  | .scxtRegData16 reg data16 => [0xC6, reg, lowByte data16, highByte data16]
  | .scxtRegMem reg mem => [0xD6, reg, lowByte mem, highByte mem]
  | .ret => [0xCB, 0x00]
  | .rets => [0xDB, 0x00]
  | .retp reg => [0xEB, reg]
  | .reti => [0xFB, 0x88]
  | .srst => [0xB7, 0x48, 0xB7, 0xB7]
  | .idle => [0x87, 0x78, 0x87, 0x87]
  | .pwrdn => [0x97, 0x68, 0x97, 0x97]
  | .srvwdt => [0xA7, 0x58, 0xA7, 0xA7]
  | .diswdt => [0xA5, 0x5A, 0xA5, 0xA5]
  | .einit => [0xB5, 0x4A, 0xB5, 0xB5]
  | .atomic irang2 => [0xD1, 0b00#2 ++ irang2 ++ 0#4]
  | .extr irang2 => [0xD1, 0b10#2 ++ irang2 ++ 0#4]
  | .extpRw m irang2 => [0xDC, 0b01#2 ++ irang2 ++ m]
  | .extpPag pag10 irang2 => [0xD7, 0b01#2 ++ irang2 ++ 0#4, pag10.extractLsb' 0 8, 0#6 ++ pag10.extractLsb' 8 2]
  | .extprRw m irang2 => [0xDC, 0b11#2 ++ irang2 ++ m]
  | .extprPag pag10 irang2 => [0xD7, 0b11#2 ++ irang2 ++ 0#4, pag10.extractLsb' 0 8, 0#6 ++ pag10.extractLsb' 8 2]
  | .extsRw m irang2 => [0xDC, 0b00#2 ++ irang2 ++ m]
  | .extsSeg seg8 irang2 => [0xD7, 0b00#2 ++ irang2 ++ 0#4, seg8, 0x00]
  | .extsrRw m irang2 => [0xDC, 0b10#2 ++ irang2 ++ m]
  | .extsrSeg seg8 irang2 => [0xD7, 0b10#2 ++ irang2 ++ 0#4, seg8, 0x00]
  | .nop => [0xCC, 0x00]

end Sys2Proof
end

