-- ==== Sys2Proof/Machine/State.lean ====
section
/-! DEFINITION. The machine's state, as plain data: every piece of state that spec/ names (INVENTORY.md, '## State'),
the reasons a step can stop, and the state right after reset. -/

namespace Sys2Proof.Machine

/-- Memory: the bytes written since power-on that differ from what they held then, by rising physical address
(20_memory.md R60, R107; log 4). -/
abbrev Memory := List Host.Cell

/-- ext_sfr (10_state.md R48): the area that `reg` and `bitoff` SFR addresses name. -/
inductive SfrRange where
  | standard
  | extended
deriving DecidableEq, Repr

/-- ext_page and ext_seg (10_state.md R48), of which at most one is set. -/
inductive DataOverride where
  | none
  /-- EXTP(R): the 10-bit page. -/
  | page (p : BitVec 10)
  /-- EXTS(R): the 8-bit segment. -/
  | segment (s : Byte)
deriving DecidableEq, Repr

/-- run_state (10_state.md R51). -/
inductive RunState where
  | running
  | idle
  | powerDown
deriving DecidableEq, Repr

/-- The four synchronous hardware traps, all of class B (60_exceptions.md R425 to R428). -/
inductive Trap where
  /-- R425: the first byte is no instruction's. -/
  | undefinedOpcode (b0 : Byte)
  /-- R426: a word access at an odd physical address. -/
  | illegalWordOperandAccess (pa : Nat)
  /-- R427: an instruction would be fetched from an odd address. -/
  | illegalInstructionAccess (target : Word)
  /-- R428: a protected instruction's first byte, the other three not as required. -/
  | protectionFault (b0 : Byte)
deriving DecidableEq, Repr

/-- A request to the CPU (10_state.md R45; 60_exceptions.md R430, R431, R433). -/
inductive Request where
  /-- A standard interrupt: its trap number and priority level. -/
  | interrupt (number : BitVec 7) (level : Nib)
  /-- The NMI, a class A trap. -/
  | nmi
  /-- A PEC transfer of one word from one physical address to another. -/
  | pecWord (source destination : BitVec 24)
  /-- A PEC transfer of one byte. -/
  | pecByte (source destination : BitVec 24)
  /-- A class B trap that waits for the end of the class A routine that was entered before it; it is no request from outside (R433, log 43). -/
  | classB (t : Trap)
deriving DecidableEq, Repr

/-- Why the machine stops. -/
inductive Fault where
  /-- Raised by any instruction or fetch that takes a hardware trap while HW_TRAP_ENTRY is off, the spec's default:
  the run ends, the fault named after its cause (60_exceptions.md R436). Safe: the machine goes on only with more
  configuration. -/
  | hardwareTrap (t : Trap)
  /-- Raised when the entry of a hardware trap itself raises a trap (an odd SP): the spec gives no outcome
  (60_exceptions.md R422, R433; log 37). Safe. -/
  | trapDuringEntry (t : Trap)
  /-- Raised by a step in Idle with no request: no instruction is executed (60_exceptions.md R464, stuck). Safe. -/
  | idleWithoutRequest
  /-- Raised by a step in PowerDown without an external reset: no further step (60_exceptions.md R463, stuck). Safe. -/
  | poweredDown
deriving DecidableEq, Repr

/-- Why a step has no meaning. -/
inductive Refusal where
  /-- Raised by exec's arm for an instruction that has no meaning yet. Safe. -/
  | notModelled (mnemonic : String)
  /-- Raised at decode: a defined first byte whose fixed bits are violated (30_encoding.md R152). Safe. -/
  | noSuchEncoding (b0 b1 b2 b3 : Byte)
  /-- Raised by an access to an SFR or ESFR address that neither SFR_MAP nor the platform defines
  (20_memory.md R106). Safe. -/
  | undefinedSfr (pa : Nat)
  /-- Raised by an access to an address that MEM_MAP leaves unmapped (20_memory.md R108). Safe. -/
  | unmapped (pa : Nat)
  /-- Raised by a write to ROM (20_memory.md R108). Safe. -/
  | romWrite (pa : Nat)
  /-- Raised by a write to CP of an odd value or one above FFE0H, and by a GPR access under such a CP
  (10_state.md R39, 20_memory.md R62). Safe. -/
  | contextPointer (v : Word)
  /-- Raised by the fetch of a byte that the program stored to (20_memory.md R103). Safe. -/
  | storedCode (pa : Nat)
deriving DecidableEq, Repr

/-- The machine's state. -/
structure State where
  /-- IP (R30). -/
  ip : Word
  /-- CSP, of which the low SEG_BITS bits exist (R30). -/
  csp : Byte
  /-- PSW, its bits in the order of R33. -/
  psw : Word
  /-- SP (R38). -/
  sp : Word
  /-- CP (R39). -/
  cp : Word
  /-- DPP0 (R40). -/
  dpp0 : Word
  /-- DPP1 (R40). -/
  dpp1 : Word
  /-- DPP2 (R40). -/
  dpp2 : Word
  /-- DPP3 (R40). -/
  dpp3 : Word
  /-- MDL (R41). -/
  mdl : Word
  /-- MDH (R41). -/
  mdh : Word
  /-- MDC (R41, R44). -/
  mdc : Word
  /-- SYSCON (R42). -/
  syscon : Word
  /-- STKOV (R44). -/
  stkov : Word
  /-- STKUN (R44). -/
  stkun : Word
  /-- TFR, the trap flag register (R44, R424). -/
  tfr : Word
  /-- seq_count (R46). -/
  seqCount : Nat
  /-- ext_sfr (R48). -/
  extSfr : SfrRange
  /-- ext_page and ext_seg (R48). -/
  extData : DataOverride
  /-- The watchdog counter (R49). -/
  wdt : Word
  /-- wdt_enabled (R49). -/
  wdtEnabled : Bool
  /-- wdt_locked (R49). -/
  wdtLocked : Bool
  /-- rstout_low, the RSTOUT pin (R50). -/
  rstoutLow : Bool
  /-- run_state (R51). -/
  runState : RunState
  /-- The bytes of the physical address space (R60). -/
  mem : Memory
  /-- The model's own: the byte addresses stored to since power-on, rising (R103, log 15). -/
  stored : List Nat
  /-- Requests delivered and not yet accepted, oldest first (R45 (e), R430). -/
  pending : List Request
  /-- NMI_PIN is low: an input (R50, R393). -/
  nmiLow : Bool
  /-- WDT_ORACLE signals an overflow: an input (R450). -/
  wdtOverflow : Bool
  /-- The external reset pin is asserted: an input (R393, R470). -/
  extReset : Bool
  /-- The model's own: how many free values have been drawn (log 39). -/
  freeCount : Nat
  /-- The configuration (R3, R7), which no step changes. -/
  cfg : Config
deriving DecidableEq, Repr

/-- Why an operation gives no state: it raised a trap, in the state reached at that point (60_exceptions.md R426),
or what it does is outside the model. -/
inductive Stop where
  | trap (t : Trap) (s : State)
  | refuse (r : Refusal)
deriving DecidableEq, Repr

/-- What an operation answers. -/
abbrev Res (α : Type) := Except Stop α

/-- The state after power-on of a machine with a given configuration: every register at its reset value
(10_state.md R55), memory with nothing listed, no input asserted. -/
def State.powerOn (cfg : Config) : State :=
  let r := cfg.resetState
  { ip := r.ip, csp := r.csp, psw := r.psw &&& 0xFC60, sp := r.sp, cp := r.cp, dpp0 := 0, dpp1 := 1, dpp2 := 2,
    dpp3 := 3, mdl := r.mdl, mdh := r.mdh, mdc := r.mdc, syscon := r.syscon, stkov := r.stkov, stkun := r.stkun,
    tfr := r.tfr, seqCount := 0, extSfr := .standard, extData := .none, wdt := r.wdt, wdtEnabled := true,
    wdtLocked := false, rstoutLow := true, runState := .running, mem := [], stored := [], pending := [],
    nmiLow := false, wdtOverflow := false, extReset := false, freeCount := 0, cfg := cfg }

/-- The machine right after reset (10_state.md R55, 70_reset_and_hazards.md R470) under the default configuration. -/
def State.reset : State := State.powerOn Config.default

end Sys2Proof.Machine
end

