-- ==== Sys2Proof/Machine/Flags.lean ====
section
/-! DEFINITION. The five condition flags, every flag computation of spec/ (10_state.md R33 to R36 and the
instructions' own rules), and the pure results they are computed with. -/

namespace Sys2Proof.Machine

/-- The condition flags, in the source's table order (10_state.md R35). -/
structure Flags where
  e : Bool
  z : Bool
  v : Bool
  c : Bool
  n : Bool
deriving DecidableEq, Repr

/-- The flags that a PSW value holds: bit 4 E, 3 Z, 2 V, 1 C, 0 N in the order of 10_state.md R33. Where a program sees them
is `Config.pswPlaces` (log 2). -/
def flagsOfPsw (p : Word) : Flags :=
  { e := p.getLsbD 4, z := p.getLsbD 3, v := p.getLsbD 2, c := p.getLsbD 1, n := p.getLsbD 0 }

/-- The five flags at their places in PSW: E Z V C N from bit 4 down to bit 0 (10_state.md R33). -/
def flagBits (f : Flags) : BitVec 5 :=
  BitVec.ofBool f.e ++ BitVec.ofBool f.z ++ BitVec.ofBool f.v ++ BitVec.ofBool f.c ++ BitVec.ofBool f.n

/-- A PSW value with its five flags replaced. -/
def pswWithFlags (p : Word) (f : Flags) : Word := p.extractLsb' 5 11 ++ flagBits f

/-- The bits of PSW that hold what is written: bits 9..7 are reserved and read 0 (10_state.md R33; log 30). -/
def pswStored (v : Word) : Word := v &&& 0xFC7F

/-- The n low bits that a function gives, bit k being `f k`. -/
def bitsOf (f : Nat → Bool) : (n : Nat) → BitVec n
  | 0 => 0#0
  | n + 1 => BitVec.cons (f n) (bitsOf f n)

/-- PSW as a program reads it: each bit of the order of 10_state.md R33 at its place of SFR_MAP (00_scope.md R7). -/
def pswWord (c : Config) (p : Word) : Word := bitsOf (fun j => p.getLsbD (c.pswPlaces.idxOf j)) 16

/-- PSW as the machine keeps it, from the word that a program writes (00_scope.md R7, 10_state.md R33). -/
def pswOf (c : Config) (v : Word) : Word := pswStored (bitsOf (fun k => v.getLsbD (c.pswPlaces.getD k 16)) 16)

/-- The machine's current flags. -/
def State.flags (s : State) : Flags := flagsOfPsw s.psw

/-- setflags (10_state.md R34): write the five flags. -/
def State.setFlags (s : State) (f : Flags) : State := { s with psw := pswWithFlags s.psw f }

/-- PSW.ILVL, the CPU priority level: bits 15..12 (10_state.md R33, 60_exceptions.md R441). -/
def State.level (s : State) : Nib := s.psw.extractLsb' 12 4

/-- PSW.IEN, the global interrupt enable: bit 11 (60_exceptions.md R441). -/
def State.interruptsEnabled (s : State) : Bool := s.psw.getLsbD 11

/-- A PSW value with its ILVL field replaced (60_exceptions.md R421). -/
def pswWithLevel (p : Word) (level : Nib) : Word := level ++ p.extractLsb' 0 12

/-- SYSCON.SGTDIS, at its place of SFR_MAP: segmentation is disabled (10_state.md R42, 00_scope.md R7). -/
def State.segmentationDisabled (s : State) : Bool := s.syscon.getLsbD s.cfg.sgtdisPlace

/-- E_of (10_state.md R34): the source operand is the lowest negative number of its type. -/
def eOf {w : Nat} (v : BitVec w) : Bool := v.toNat == 2 ^ (w - 1)

/-- Z_of (10_state.md R34). -/
def zOf {w : Nat} (r : BitVec w) : Bool := r.toNat == 0

/-- N_of (10_state.md R34). -/
def nOf {w : Nat} (r : BitVec w) : Bool := r.msb

/-- Whether an exact integer is outside the range of W-bit two's complement numbers (10_state.md R34). -/
def outOfRange (w : Nat) (x : Int) : Bool := decide (x < -(2 ^ (w - 1) : Nat)) || decide ((2 ^ (w - 1) : Nat) ≤ x)

/-- A result with the carry and the overflow of its operation. -/
structure ExactSum (w : Nat) where
  val : BitVec w
  c : Bool
  v : Bool
deriving DecidableEq, Repr

/-- add(a, b, cin, W) (10_state.md R34): the sum, the carry out and the signed overflow. -/
def addExact {w : Nat} (a b : BitVec w) (cin : Bool) : ExactSum w :=
  { val := BitVec.ofNat w (a.toNat + b.toNat + cin.toNat)
    c := decide (2 ^ w ≤ a.toNat + b.toNat + cin.toNat)
    v := outOfRange w (a.toInt + b.toInt + cin.toInt) }

/-- sub(a, b, bin, W) (10_state.md R34): the difference, the borrow and the signed overflow. -/
def subExact {w : Nat} (a b : BitVec w) (bin : Bool) : ExactSum w :=
  { val := a - b - BitVec.ofNat w bin.toNat
    c := decide (a.toNat < b.toNat + bin.toNat)
    v := outOfRange w (a.toInt - b.toInt - bin.toInt) }

/-- A value and the flags it comes with. -/
structure Flagged (w : Nat) where
  val : BitVec w
  flags : Flags
deriving DecidableEq, Repr

/-- The flags E * Z * V * C * N * of an addition or subtraction with second operand b (10_state.md R34). -/
def ExactSum.flagged {w : Nat} (r : ExactSum w) (b : BitVec w) : Flagged w :=
  { val := r.val, flags := { e := eOf b, z := zOf r.val, v := r.v, c := r.c, n := nOf r.val } }

/-- The same with Z chained: set only if the previous Z was set (40_arithmetic.md R202, R203, R206). -/
def ExactSum.flaggedChained {w : Nat} (r : ExactSum w) (b : BitVec w) (zBefore : Bool) : Flagged w :=
  { val := r.val, flags := { e := eOf b, z := zOf r.val && zBefore, v := r.v, c := r.c, n := nOf r.val } }

/-- The flags E * Z * V 0 C 0 N * of a logical operation with result r and source b (41_logical.md R240). -/
def logicFlagged {w : Nat} (r b : BitVec w) : Flagged w :=
  { val := r, flags := { e := eOf b, z := zOf r, v := false, c := false, n := nOf r } }

/-- The operations of the seven-form template (40_arithmetic.md R218). `subcPlainZ` is SUBCB as its page prints it
(40_arithmetic.md R207). -/
inductive AluOp where
  | add | addc | sub | subc | subcPlainZ | and | or | xor
deriving DecidableEq, Repr

/-- The result and the flags of each operation, a the first operand, b the second, f the flags before
(40_arithmetic.md R200 to R207, 41_logical.md R240 to R245). -/
def AluOp.eval {w : Nat} (op : AluOp) (f : Flags) (a b : BitVec w) : Flagged w :=
  match op with
  | .add => (addExact a b false).flagged b
  | .addc => (addExact a b f.c).flaggedChained b f.z
  | .sub => (subExact a b false).flagged b
  | .subc => (subExact a b f.c).flaggedChained b f.z
  | .subcPlainZ => (subExact a b f.c).flagged b
  | .and => logicFlagged (a &&& b) b
  | .or => logicFlagged (a ||| b) b
  | .xor => logicFlagged (a ^^^ b) b

/-- CMP and CMPB, and the comparison of CMPD1, CMPD2, CMPI1, CMPI2 (42_bit_and_compare.md R262, R263;
43_loop_prior_shift.md R269): the flags of a - b. -/
def compareFlags {w : Nat} (a b : BitVec w) : Flags := ((subExact a b false).flagged b).flags

/-- CPL, CPLB (40_arithmetic.md R214, R215): E looks at the operand before the complement. -/
def complement {w : Nat} (a : BitVec w) : Flagged w := logicFlagged (~~~a) a

/-- NEG, NEGB (40_arithmetic.md R216, R217): the flags of 0 - a. -/
def negate {w : Nat} (a : BitVec w) : Flagged w := (subExact 0 a false).flagged a

/-- mvflags (44_data_movement.md R288): E, Z, N of the value moved, V and C as before. -/
def moveFlags {w : Nat} (f : Flags) (v : BitVec w) : Flags :=
  { e := eOf v, z := zOf v, v := f.v, c := f.c, n := nOf v }

/-- MOVBS (44_data_movement.md R330): E 0, Z and N of the source byte, V and C as before. -/
def signExtendFlags (f : Flags) (v : Byte) : Flags := { e := false, z := zOf v, v := f.v, c := f.c, n := nOf v }

/-- MOVBZ (44_data_movement.md R333): E 0, Z of the source byte, N 0, V and C as before. -/
def zeroExtendFlags (f : Flags) (v : Byte) : Flags := { e := false, z := zOf v, v := f.v, c := f.c, n := false }

/-- E 0, Z the complement of a bit, V 0, C 0, N the bit: BCLR, BSET, BMOV, BMOVN, JBC, JNBS
(42_bit_and_compare.md R250 to R253; 45_jump_call.md R348, R350). -/
def bitFlags (b : Bool) : Flags := { e := false, z := !b, v := false, c := false, n := b }

/-- E 0, Z NOR, V OR, C AND, N XOR of two bits (42_bit_and_compare.md R264). -/
def twoBitFlags (d q : Bool) : Flags :=
  { e := false, z := !(d || q), v := d || q, c := d && q, n := xor d q }

/-- BFLDH, BFLDL (42_bit_and_compare.md R258, R259): Z and N of the word result. -/
def fieldFlags (r : Word) : Flags := { e := false, z := zOf r, v := false, c := false, n := nOf r }

/-- A word with one bit replaced (20_memory.md R67). -/
def withBit (w : Word) (p : Nib) (b : Bool) : Word :=
  if b then w ||| (1#16 <<< p.toNat) else w &&& ~~~(1#16 <<< p.toNat)

/-- One bit of a word (20_memory.md R67). -/
def bitOf (w : Word) (p : Nib) : Bool := w.getLsbD p.toNat

/-- A 32-bit result with its flags. -/
abbrev ProductFlagged := Flagged 32

/-- MUL (40_arithmetic.md R208): the exact signed product; Z and N of all 32 bits; V when it does not fit a signed word. -/
def mulSigned (a b : Word) : ProductFlagged :=
  let p : Int := a.toInt * b.toInt
  let r := BitVec.ofInt 32 p
  { val := r, flags := { e := false, z := decide (p = 0), v := outOfRange 16 p, c := false, n := nOf r } }

/-- MULU (40_arithmetic.md R209): the exact unsigned product; V when it does not fit a word. -/
def mulUnsigned (a b : Word) : ProductFlagged :=
  let p : Nat := a.toNat * b.toNat
  let r := BitVec.ofNat 32 p
  { val := r, flags := { e := false, z := decide (p = 0), v := decide (0xFFFF < p), c := false, n := nOf r } }

/-- SDIV_q (40_arithmetic.md R210, log 10). -/
def signedQuotient (m : SignedDivision) (a d : Int) : Int :=
  match m with
  | .truncating => a.tdiv d
  | .other => Config.otherQuotient a d

/-- A quotient with its remainder. -/
structure Division where
  quotient : Word
  remainder : Word
deriving DecidableEq, Repr

/-- DIV and DIVL (40_arithmetic.md R210, R211): none for a zero divisor or a quotient that does not fit a signed word. -/
def divideSigned (m : SignedDivision) (a d : Int) : Option Division :=
  let q := signedQuotient m a d
  if d = 0 || outOfRange 16 q then none
  else some { quotient := BitVec.ofInt 16 q, remainder := BitVec.ofInt 16 (a - q * d) }

/-- DIVU and DIVLU (40_arithmetic.md R212, R213): none for a zero divisor or a quotient above FFFFH. -/
def divideUnsigned (a d : Nat) : Option Division :=
  if d = 0 || decide (0xFFFF < a / d) then none
  else some { quotient := BitVec.ofNat 16 (a / d), remainder := BitVec.ofNat 16 (a % d) }

/-- The flags of a division that gives a result: E 0, Z and N of the quotient, V 0, C 0 (40_arithmetic.md R210 to R213). -/
def quotientFlags (q : Word) : Flags := { e := false, z := zOf q, v := false, c := false, n := nOf q }

/-- The shift and rotate operations (43_loop_prior_shift.md R275 to R279). -/
inductive ShiftOp where
  | shl | shr | rol | ror | ashr
deriving DecidableEq, Repr

/-- The last bit shifted out to the right: x[c - 1], 0 for a count of zero (R276, R278, R279). -/
def lastOutRight (x : Word) (c : Nat) : Bool := if c = 0 then false else x.getLsbD (c - 1)

/-- The last bit shifted out to the left: x[16 - c], 0 for a count of zero (R275, R277). -/
def lastOutLeft (x : Word) (c : Nat) : Bool := if c = 0 then false else x.getLsbD (16 - c)

/-- The rounding flag: any 1 among the bits shifted out before the last (R276, R278, R279). -/
def roundingOut (x : Word) (c : Nat) : Bool := if c ≤ 1 then false else decide (x.toNat % 2 ^ (c - 1) ≠ 0)

/-- The result and flags of a shift or rotate by c = 0..15 (43_loop_prior_shift.md R275 to R279). -/
def ShiftOp.eval (op : ShiftOp) (x : Word) (count : Nib) : Flagged 16 :=
  let c := count.toNat
  let flag (r : Word) (v cy : Bool) : Flagged 16 :=
    { val := r, flags := { e := false, z := zOf r, v := v, c := cy, n := nOf r } }
  match op with
  | .shl => flag (x <<< c) false (lastOutLeft x c)
  | .shr => flag (x >>> c) (roundingOut x c) (lastOutRight x c)
  | .rol => flag ((x <<< c) ||| (x >>> (16 - c))) false (lastOutLeft x c)
  | .ror => flag ((x >>> c) ||| (x <<< (16 - c))) (roundingOut x c) (lastOutRight x c)
  | .ashr => flag (x.sshiftRight c) (roundingOut x c) (lastOutRight x c)

/-- PRIOR's count (43_loop_prior_shift.md R274): the leading zero bits of a non-zero word, and 0 for 0. -/
def priorCount (v : Word) : Nat := if v.toNat = 0 then 0 else 15 - v.toNat.log2

/-- cond(c), the sixteen condition codes (10_state.md R36). -/
def condition (cc : Nib) (f : Flags) : Bool :=
  match cc.toNat with
  | 0x0 => true
  | 0x1 => !(f.z || f.e)
  | 0x2 => f.z
  | 0x3 => !f.z
  | 0x4 => f.v
  | 0x5 => !f.v
  | 0x6 => f.n
  | 0x7 => !f.n
  | 0x8 => f.c
  | 0x9 => !f.c
  | 0xA => !(f.z || xor f.n f.v)
  | 0xB => f.z || xor f.n f.v
  | 0xC => xor f.n f.v
  | 0xD => !xor f.n f.v
  | 0xE => !(f.z || f.c)
  | _ => f.z || f.c

end Sys2Proof.Machine
end

