-- ==== Sys2Proof/Machine/Ops.lean ====
section
/-! DEFINITION. The named operations over memory, registers and the stack, the free values, trap entry and the return
from it, and reset. An operation that can stop answers `Res`; `s.wordAt`, `s.byteAt`, `s.putWord`, `s.putByte` are the
same accesses where nothing stops them. -/

namespace Sys2Proof.Machine

/-! ### Memory as data -/

/-- What MEM_MAP says of an address: the kind of the first region that holds it, unmapped where none does
(20_memory.md R108). -/
def kindOf (c : Config) (pa : Nat) : RegionKind :=
  match c.memMap.find? (fun r => decide (r.first ≤ pa) && decide (pa ≤ r.last)) with
  | some r => r.kind
  | none => .unmapped

/-- What an unlisted address holds since power-on, where the model names a value: the registers that lie in memory, which
are the GPRs of the reset bank and the platform's SFR words, are 0. DESIGN CHOICE (log 4, log 31), unsafe. Elsewhere
nothing is named (20_memory.md R107). -/
def initialByte (c : Config) (pa : Nat) : Option Byte :=
  if (decide (c.resetState.cp.toNat ≤ pa) && decide (pa < c.resetState.cp.toNat + 32)) || kindOf c pa == .sfr then
    some 0
  else none

/-- The canonical form: addresses strictly rising, and no entry equal to what the address holds unlisted. -/
abbrev Memory.wf (c : Config) (m : Memory) : Prop :=
  m.Pairwise (fun x y => x.1 < y.1) ∧ ∀ e ∈ m, initialByte c e.1 ≠ some e.2

/-- The listed byte of an address. -/
def Memory.read : Memory → Nat → Option Byte
  | [], _ => none
  | (a, b) :: rest, pa => if a = pa then some b else Memory.read rest pa

/-- List a byte at its place among rising addresses. -/
def Memory.list : Memory → Nat → Byte → Memory
  | [], pa, v => [(pa, v)]
  | (a, b) :: rest, pa, v =>
    if pa < a then (pa, v) :: (a, b) :: rest
    else if pa = a then (pa, v) :: rest
    else (a, b) :: Memory.list rest pa v

/-- Write one byte, keeping the canonical form. -/
def Memory.write (c : Config) (m : Memory) (pa : Nat) (v : Byte) : Memory :=
  if initialByte c pa = some v then m.filter (fun e => e.1 != pa) else m.list pa v

/-- Write a little-endian word (20_memory.md R70). -/
def Memory.writeWord (c : Config) (m : Memory) (pa : Nat) (v : Word) : Memory :=
  (m.write c pa (lowByte v)).write c (pa + 1) (highByte v)

/-- The byte that memory holds at an address. One that nothing has written since power-on and that has no initial value is
a free value, the same at every read (20_memory.md R107, 93_implementation_defined.md U13; log 4). -/
def State.memByte (s : State) (pa : Nat) : Byte :=
  ((s.mem.read pa).or (initialByte s.cfg pa)).getD (Config.powerOnByte pa)

/-- The little-endian word that memory holds at an address (20_memory.md R70). -/
def State.memWord (s : State) (pa : Nat) : Word := s.memByte (pa + 1) ++ s.memByte pa

/-- Add an address to the rising list of those stored to. -/
def markStored : List Nat → Nat → List Nat
  | [], pa => [pa]
  | a :: rest, pa => if pa < a then pa :: a :: rest else if pa = a then a :: rest else a :: markStored rest pa

/-- Remember that the program stored to both bytes of a word (20_memory.md R103, 70_reset_and_hazards.md R489; log 15). -/
def State.markWord (s : State) (pa : Nat) : State := { s with stored := markStored (markStored s.stored pa) (pa + 1) }

/-- Store a byte in memory, remembering that the program stored there (20_memory.md R103, log 15). -/
def State.storeByte (s : State) (pa : Nat) (v : Byte) : State :=
  { s with mem := s.mem.write s.cfg pa v, stored := markStored s.stored pa }

/-- Store a word in memory, remembering that the program stored there (20_memory.md R70, R103, log 15). -/
def State.storeWord (s : State) (pa : Nat) (v : Word) : State :=
  { s with mem := s.mem.writeWord s.cfg pa v, stored := markStored (markStored s.stored pa) (pa + 1) }

/-! ### The variant's widths and the physical addresses -/

/-- SEG_BITS (00_scope.md R6). -/
def segBits : Variant → Nat
  | .c167 => 8
  | .sab8xc166 => 2

/-- PAGE_BITS (00_scope.md R6, 10_state.md R40). -/
def pageBits : Variant → Nat
  | .c167 => 10
  | .sab8xc166 => 4

/-- PA_BITS (00_scope.md R6, 20_memory.md R60). -/
def paBits : Variant → Nat
  | .c167 => 24
  | .sab8xc166 => 18

/-- The significant bits of a segment number (10_state.md R30, 45_jump_call.md R340). -/
def segOf (v : Variant) (seg : Byte) : Byte := BitVec.ofNat 8 (seg.toNat % 2 ^ segBits v)

/-- A 16-bit offset inside a segment (10_state.md R30, 20_memory.md R82, R109). -/
def segmentAddress (v : Variant) (seg : Byte) (offset : Word) : Nat :=
  (segOf v seg).toNat * 2 ^ 16 + offset.toNat

/-- A 14-bit offset inside a data page (20_memory.md R80, R81). -/
def pageAddress (v : Variant) (page : Nat) (la : Word) : Nat :=
  page % 2 ^ pageBits v * 2 ^ 14 + la.toNat % 2 ^ 14

/-- The DPP register that bits 15..14 of a long address select (20_memory.md R80). -/
def State.dppFor (s : State) (la : Word) : Word :=
  match la.toNat / 2 ^ 14 with
  | 0 => s.dpp0
  | 1 => s.dpp1
  | 2 => s.dpp2
  | _ => s.dpp3

/-- PhysData: the physical address of a long or indirect data address, under the override of an EXTended sequence or
through a DPP register (20_memory.md R80 to R83). -/
def State.physData (s : State) (la : Word) : Nat :=
  match s.extData with
  | .segment g => segmentAddress s.cfg.variant g la
  | .page p => pageAddress s.cfg.variant p.toNat la
  | .none => pageAddress s.cfg.variant (s.dppFor la).toNat la

/-! ### What an address names -/

/-- What a physical address names. -/
inductive Place where
  /-- A CPU register (10_state.md R44). -/
  | sfr (r : CpuSfr)
  /-- An SFR word of the platform: plain storage (60_exceptions.md R460, log 31). -/
  | device
  /-- An SFR word of the platform with its own read and write function (60_exceptions.md R460, log 31). -/
  | peripheral
  /-- Readable and writable memory. -/
  | plain
  /-- Read-only memory. -/
  | rom
  /-- Nothing that the model can access, and why. -/
  | absent (r : Refusal)
deriving DecidableEq, Repr

/-- The even address of the word that a byte lies in. -/
def wordAddress (pa : Nat) : Nat := pa / 2 * 2

/-- What a physical address names (20_memory.md R66, R106, R108). -/
def place (c : Config) (pa : Nat) : Place :=
  match kindOf c pa with
  | .rom => .rom
  | .ram => .plain
  | .external => .plain
  | .unmapped => .absent (.unmapped pa)
  | .sfr =>
    match c.sfrMap.lookup (wordAddress pa) with
    | some r => .sfr r
    | none =>
      match c.platformSfrs.lookup (wordAddress pa) with
      | some .storage => .device
      | some .functions => .peripheral
      | none => .absent (.undefinedSfr pa)

/-! ### The CPU registers as memory words -/

/-- CP is legal: even, and the bank of 32 bytes inside segment 0 (20_memory.md R62, D4). -/
def cpLegal (cp : Word) : Bool := cp.toNat % 2 == 0 && decide (cp.toNat ≤ 0xFFE0)

/-- Read a CPU register as a memory word (20_memory.md R66; ZEROS and ONES are constants, 10_state.md R44). -/
def State.readSfr (s : State) : CpuSfr → Word
  | .dpp0 => s.dpp0
  | .dpp1 => s.dpp1
  | .dpp2 => s.dpp2
  | .dpp3 => s.dpp3
  | .csp => s.csp.setWidth 16
  | .mdh => s.mdh
  | .mdl => s.mdl
  | .cp => s.cp
  | .sp => s.sp
  | .stkov => s.stkov
  | .stkun => s.stkun
  | .mdc => s.mdc
  | .psw => pswWord s.cfg s.psw
  | .syscon => s.syscon
  | .zeros => 0x0000
  | .ones => 0xFFFF
  | .tfr => s.tfr

/-- Write a CPU register as a memory word (20_memory.md R66): CSP keeps SEG_BITS bits (10_state.md R30), PSW's reserved
bits stay 0 (R33), ZEROS and ONES discard the write (R44). -/
def State.writeSfr (s : State) (r : CpuSfr) (v : Word) : State :=
  match r with
  | .dpp0 => { s with dpp0 := v }
  | .dpp1 => { s with dpp1 := v }
  | .dpp2 => { s with dpp2 := v }
  | .dpp3 => { s with dpp3 := v }
  | .csp => { s with csp := segOf s.cfg.variant (lowByte v) }
  | .mdh => { s with mdh := v }
  | .mdl => { s with mdl := v }
  | .cp => { s with cp := v }
  | .sp => { s with sp := v }
  | .stkov => { s with stkov := v }
  | .stkun => { s with stkun := v }
  | .mdc => { s with mdc := v }
  | .psw => { s with psw := pswOf s.cfg v }
  | .syscon => { s with syscon := v }
  | .zeros => s
  | .ones => s
  | .tfr => { s with tfr := v }

/-! ### Accesses -/

/-- One byte of a word, by the address of the byte (20_memory.md R70). -/
def byteOfWord (w : Word) (pa : Nat) : Byte := if pa % 2 = 0 then lowByte w else highByte w

/-- A word that holds a byte at its place and 00H beside it (20_memory.md R64, R75). -/
def wordOfByte (v : Byte) (pa : Nat) : Word := if pa % 2 = 0 then 0x00#8 ++ v else v ++ 0x00#8

/-- The word at an even physical address. That what the even byte's address names decides the whole word, also where MEM_MAP
puts the odd byte into a region of another kind, which 20_memory.md R108 leaves open, is the model's choice. DESIGN CHOICE
(log 51), unsafe. -/
def State.wordAt (s : State) (pa : Nat) : Word :=
  match place s.cfg pa with
  | .sfr r => s.readSfr r
  | .peripheral => Config.deviceRead pa (s.memWord pa)
  | _ => s.memWord pa

/-- The byte at a physical address. What that address names decides; a byte of an SFR word is a byte of the whole word,
whatever region its other byte lies in (log 51). -/
def State.byteAt (s : State) (pa : Nat) : Byte :=
  match place s.cfg pa with
  | .sfr r => byteOfWord (s.readSfr r) pa
  | .peripheral => byteOfWord (Config.deviceRead (wordAddress pa) (s.memWord (wordAddress pa))) pa
  | _ => s.memByte pa

/-- Write a word to a platform device that has a write function (60_exceptions.md R460, log 31). -/
def State.storeDevice (s : State) (pa : Nat) (v : Word) : State :=
  s.storeWord pa (Config.deviceWrite pa (s.memWord pa) v)

/-- Write the word at an even physical address. A store to a CPU register is remembered as one to memory is
(20_memory.md R103, 70_reset_and_hazards.md R489). That what the even byte's address names decides the whole word, also where
MEM_MAP puts the odd byte into a region of another kind, which 20_memory.md R108 leaves open, is the model's choice. DESIGN
CHOICE (log 51), unsafe. -/
def State.putWord (s : State) (pa : Nat) (v : Word) : State :=
  match place s.cfg pa with
  | .sfr r => (s.writeSfr r v).markWord pa
  | .peripheral => s.storeDevice pa v
  | _ => s.storeWord pa v

/-- Write the byte at a physical address; a byte written to an SFR clears the other byte of its word
(20_memory.md R64, R74, R75, D16). That a byte GPR of a bank laid over the SFR area is written as the SFR it is, where
10_state.md R21 and D16 keep the other byte of a GPR, is the model's choice (44_data_movement.md R310,
91_not_in_source.md N24; log 47), and so is that the other byte is cleared also where MEM_MAP puts it into a region of another
kind (20_memory.md R108; log 51). -/
def State.putByte (s : State) (pa : Nat) (v : Byte) : State :=
  match place s.cfg pa with
  | .sfr r => (s.writeSfr r (wordOfByte v pa)).markWord (wordAddress pa)
  | .device => s.storeWord (wordAddress pa) (wordOfByte v pa)
  | .peripheral => s.storeDevice (wordAddress pa) (wordOfByte v pa)
  | _ => s.storeByte pa v

/-- Why a byte cannot be read (20_memory.md R106, R108). -/
def State.readStop (s : State) (pa : Nat) : Option Stop :=
  match place s.cfg pa with
  | .absent r => some (.refuse r)
  | _ => none

/-- Why a word cannot be written where it stands on an even address, or a byte: an absent place, ROM, or an illegal
value for CP (20_memory.md R62, R106, R108). -/
def State.writeStop (s : State) (pa : Nat) (v : Word) : Option Stop :=
  match place s.cfg pa with
  | .absent r => some (.refuse r)
  | .rom => some (.refuse (.romWrite pa))
  | .sfr .cp => if cpLegal v then none else some (.refuse (.contextPointer v))
  | _ => none

/-- The trap of a word access at an odd address, in the state that the instruction has reached
(20_memory.md R72, 60_exceptions.md R426). -/
def State.oddStop (s : State) (pa : Nat) : Option Stop :=
  if pa % 2 = 0 then none else some (.trap (.illegalWordOperandAccess pa) s)

/-- An operation that a reason can stop. -/
def unlessStopped {α : Type} (why : Option Stop) (a : α) : Res α :=
  match why with
  | some e => .error e
  | none => .ok a

/-- MemRead(pa, 2): both bytes must be there (20_memory.md R70, R72, R108; log 5); what the even byte's address names is read
(log 51). -/
def memReadW (s : State) (pa : Nat) : Res Word :=
  unlessStopped (((s.oddStop pa).or (s.readStop pa)).or (s.readStop (pa + 1))) (s.wordAt pa)

/-- MemRead(pa, 1) (20_memory.md R74). -/
def memReadB (s : State) (pa : Nat) : Res Byte := unlessStopped (s.readStop pa) (s.byteAt pa)

/-- MemWrite(pa, 2, v): both bytes must take it (20_memory.md R70, R72, R108; log 5); what the even byte's address names is
written (log 51). -/
def memWriteW (s : State) (pa : Nat) (v : Word) : Res State :=
  unlessStopped (((s.oddStop pa).or (s.writeStop pa v)).or (s.writeStop (pa + 1) v)) (s.putWord pa v)

/-- MemWrite(pa, 2, v) where `wanted` holds, else nothing. -/
def memWriteWhenW (s : State) (wanted : Bool) (pa : Nat) (v : Word) : Res State :=
  match memWriteW s pa v with
  | .ok t => .ok (if wanted then t else s)
  | .error e => if wanted then .error e else .ok s

/-- MemWrite(pa, 1, v) (20_memory.md R74). -/
def memWriteB (s : State) (pa : Nat) (v : Byte) : Res State :=
  unlessStopped (s.writeStop pa (wordOfByte v pa)) (s.putByte pa v)

/-- The word at a physical address is PSW (10_state.md R37); of a word, its even byte's address decides (log 51). -/
def isPsw (c : Config) (pa : Nat) : Bool := place c pa == .sfr .psw

/-- The flag update of an instruction, which is not performed when the destination at `pa` is PSW
(10_state.md R37, D30). -/
def State.setFlagsFor (s : State) (pa : Nat) (f : Flags) : State :=
  if isPsw s.cfg pa then s else s.setFlags f

/-- Write a word result to its destination, then the flags (20_memory.md R96, 10_state.md R37). -/
def finishW (s : State) (pa : Nat) (r : Flagged 16) : Res State :=
  (memWriteW s pa r.val).map (·.setFlagsFor pa r.flags)

/-- Write a byte result to its destination, then the flags (20_memory.md R96, 10_state.md R37). -/
def finishB (s : State) (pa : Nat) (r : Flagged 8) : Res State :=
  (memWriteB s pa r.val).map (·.setFlagsFor pa r.flags)

/-! ### Free values -/

/-- Draw a free word (log 9): a value that the spec leaves open. -/
def State.drawWord (s : State) : Word × State := (Config.freeWord s.freeCount, { s with freeCount := s.freeCount + 1 })

/-- Draw a free byte (log 9). -/
def State.drawByte (s : State) : Byte × State :=
  (lowByte (Config.freeWord s.freeCount), { s with freeCount := s.freeCount + 1 })

/-- Draw a free bit (log 9). -/
def State.drawBit (s : State) : Bool × State := (Config.freeBit s.freeCount, { s with freeCount := s.freeCount + 1 })

/-! ### The system stack -/

/-- Push a word: SP first, then the write at 00'SP (20_memory.md R98). -/
def push (s : State) (v : Word) : Res State := memWriteW { s with sp := s.sp - 2 } (s.sp - 2).toNat v

/-- Pop a word: the read at 00'SP, then SP (20_memory.md R98). -/
def pop (s : State) : Res (Word × State) :=
  (memReadW s s.sp.toNat).map (fun w => (w, { s with sp := s.sp + 2 }))

/-! ### Sequences -/

/-- End an ATOMIC or EXTended sequence (10_state.md R46, R48; 60_exceptions.md R432). -/
def State.endSequence (s : State) : State := { s with seqCount := 0, extSfr := .standard, extData := .none }

/-! ### Traps: entry and return -/

/-- The common part of TRAP and of hardware entry (45_jump_call.md R356, 60_exceptions.md R421): push the given PSW word, CSP
if segmentation is enabled (and clear it), and the return address; go to the vector. -/
def saveAndVector (s : State) (oldPsw : Word) (number : BitVec 7) (ret : Word) : Res State := do
  let s ← push s oldPsw
  let s ←
    if s.segmentationDisabled then .ok s
    else (push s (s.csp.setWidth 16)).map (fun t => { t with csp := 0 })
  let s ← push s ret
  return { s with ip := 4 * number.setWidth 16 }

/-- Enter(t, ret, newlevel), the entry of a hardware trap or an interrupt (60_exceptions.md R421). -/
def enter (s : State) (number : BitVec 7) (ret : Word) (level : Nib) : Res State :=
  saveAndVector { s with psw := pswWithLevel s.psw level } (pswWord s.cfg s.psw) number ret

/-- The trap number of a hardware trap (60_exceptions.md R424). -/
def trapNumber (v : TrapVectors) : Trap → BitVec 7
  | .undefinedOpcode _ => v.undefinedOpcode
  | .illegalWordOperandAccess _ => v.illegalWordOperand
  | .illegalInstructionAccess _ => v.illegalInstruction
  | .protectionFault _ => v.protectionFault

/-- The TFR flag of a hardware trap: UNDOPC bit 7, PRTFLT bit 3, ILLOPA bit 2, ILLINA bit 1 (60_exceptions.md R424). -/
def trapFlag : Trap → Word
  | .undefinedOpcode _ => 0x0080
  | .illegalWordOperandAccess _ => 0x0004
  | .illegalInstructionAccess _ => 0x0002
  | .protectionFault _ => 0x0008

/-- A class B trap that waits (60_exceptions.md R433). -/
def Request.isClassB : Request → Bool
  | .classB _ => true
  | .interrupt _ _ => false
  | .nmi => false
  | .pecWord _ _ => false
  | .pecByte _ _ => false

/-- No class B trap waits any more. -/
def State.withoutClassB (s : State) : State := { s with pending := s.pending.filter (fun r => !r.isClassB) }

/-- The entry of a hardware trap of class B, at level 15 (60_exceptions.md R421, R424). Every class B trap that waits shares
it (R433): their TFR flags were set when they were raised. -/
def enterTrap (s : State) (t : Trap) (ret : Word) : Res State :=
  enter s.withoutClassB (trapNumber s.cfg.trapVectors t) ret 15

/-- The entry of the NMI, with its TFR flag, at level 15 (60_exceptions.md R421, R424, R430). -/
def enterNmi (s : State) (ret : Word) : Res State :=
  enter { s with tfr := s.tfr ||| 0x8000 } s.cfg.trapVectors.nmi ret 15

/-- The entry of a class B trap that was raised or had waited: its own routine; or, where an NMI is pending (a sequence had
locked it out), the NMI's first, the class B trap waiting for that routine's end (60_exceptions.md R433; log 43). -/
def enterRaised (s : State) (t : Trap) (ret : Word) : Res State :=
  if s.pending.contains .nmi then enterNmi { s with pending := s.pending.erase .nmi ++ [.classB t] } ret
  else enterTrap s t ret

/-- Take a hardware trap: by default the run ends (60_exceptions.md R436); with HW_TRAP_ENTRY the sequence ends
(R432), the TFR flag is set and the routine is entered at level 15 with return address `ret` (R421, R424, R433). -/
def raiseTrap (s : State) (t : Trap) (ret : Word) : Host.Outcome State Fault Refusal :=
  if s.cfg.hwTrapEntry then
    match enterRaised { s.endSequence with tfr := s.tfr ||| trapFlag t } t ret with
    | .ok s => .next s
    | .error (.trap t' _) => .fault (.trapDuringEntry t')
    | .error (.refuse r) => .refused r
  else .fault (.hardwareTrap t)

/-- The step that an operation comes to; `ret` is the return address of a trap that it raised. -/
def settle (ret : Word) (r : Res State) : Host.Outcome State Fault Refusal :=
  match r with
  | .ok s => .next s
  | .error (.trap t s) => raiseTrap s t ret
  | .error (.refuse r) => .refused r

/-- RETI: pop IP, CSP if segmentation is enabled, and PSW (46_stack_return.md R377). -/
def returnFromInterrupt (s : State) : Res State := do
  let (target, s) ← pop s
  let s ←
    if s.segmentationDisabled then .ok s
    else (pop s).map (fun p => { p.2 with csp := segOf p.2.cfg.variant (lowByte p.1) })
  let (psw, s) ← pop s
  return { s with psw := pswOf s.cfg psw, ip := target }

/-! ### Moving on -/

/-- IPnext: the address of the following instruction (10_state.md R31). -/
def State.ipNext (s : State) (length : Nat) : Word := s.ip + BitVec.ofNat 16 length

/-- Go to an instruction address. -/
def State.goto (s : State) (target : Word) : State := { s with ip := target }

/-- Complete an instruction of a given length that does not branch: `pc <- IPnext` (10_state.md R31). A trap that its
operation raises returns to the following instruction (60_exceptions.md R426). -/
def complete (length : Nat) (s : State) (r : Res State) : Host.Outcome State Fault Refusal :=
  settle (s.ipNext length) (r.map (·.goto (s.ipNext length)))

/-- Reset() (70_reset_and_hazards.md R470 to R474): every register to its reset value; memory, the configuration and the
level of the NMI pin stay (R472, log 38). What the platform's SFR words hold after a reset neither R390, R472 nor
10_state.md R55 says: they lie in memory and keep their content. DESIGN CHOICE (log 44), unsafe. -/
def State.doReset (s : State) : State :=
  { State.powerOn s.cfg with mem := s.mem, stored := s.stored, nmiLow := s.nmiLow, freeCount := s.freeCount }

end Sys2Proof.Machine
end

