-- ==== Sys2Proof/Machine/Operands.lean ====
section
/-! DEFINITION. The operand forms (20_memory.md R62 to R67, R85 to R96): where each operand lies, how it is read and
written, and the free values of the cases of R96 in which the source defines no result (log 8). -/

namespace Sys2Proof.Machine

/-! ### Short addresses -/

/-- GPRW(n): the address of word GPR n (20_memory.md R62). -/
def State.gprAddress (s : State) (n : Nib) : Nat := s.cp.toNat + 2 * n.toNat

/-- GPRB(k): the address of byte GPR k (20_memory.md R62). -/
def State.gprByteAddress (s : State) (k : Nib) : Nat := s.cp.toNat + k.toNat

/-- Word GPR n, where nothing stops the access. -/
def State.gpr (s : State) (n : Nib) : Word := s.wordAt (s.gprAddress n)

/-- Byte GPR k, where nothing stops the access. -/
def State.gprByte (s : State) (k : Nib) : Byte := s.byteAt (s.gprByteAddress k)

/-- A GPR address is used only under a legal CP (20_memory.md R62, D4). -/
def inBank (s : State) (pa : Nat) : Res Nat :=
  if cpLegal s.cp then .ok pa else .error (.refuse (.contextPointer s.cp))

/-- The address of operand `Rw` (20_memory.md R86). -/
def rwAddress (s : State) (n : Nib) : Res Nat := inBank s (s.gprAddress n)

/-- The address of operand `Rb` (20_memory.md R86). -/
def rbAddress (s : State) (k : Nib) : Res Nat := inBank s (s.gprByteAddress k)

/-- The SFR or ESFR address of a short `reg` address below F0H (20_memory.md R64). -/
def State.regSfrAddress (s : State) (reg : Byte) : Nat :=
  (match s.extSfr with
    | .standard => 0xFE00
    | .extended => 0xF000) + 2 * reg.toNat

/-- RegPA(reg, 16) (20_memory.md R64). -/
def regAddressW (s : State) (reg : Byte) : Res Nat :=
  if reg.toNat < 0xF0 then .ok (s.regSfrAddress reg) else rwAddress s (lo reg)

/-- RegPA(reg, 8) (20_memory.md R64). -/
def regAddressB (s : State) (reg : Byte) : Res Nat :=
  if reg.toNat < 0xF0 then .ok (s.regSfrAddress reg) else rbAddress s (lo reg)

/-- BitoffPA(b) (20_memory.md R65). -/
def bitoffAddress (s : State) (b : Byte) : Res Nat :=
  if b.toNat ≤ 0x7F then .ok (0xFD00 + 2 * b.toNat)
  else if b.toNat ≤ 0xEF then
    .ok ((match s.extSfr with
      | .standard => 0xFF00
      | .extended => 0xF100) + 2 * (b.toNat % 0x80))
  else rwAddress s (lo b)

/-! ### Reading and writing through an address that may be refused -/

/-- Read the word operand at an address. -/
def readW (s : State) (address : Res Nat) : Res Word := address.bind (memReadW s)

/-- Read the byte operand at an address. -/
def readB (s : State) (address : Res Nat) : Res Byte := address.bind (memReadB s)

/-- Read word GPR n (20_memory.md R86). -/
def readRw (s : State) (n : Nib) : Res Word := readW s (rwAddress s n)

/-- Read byte GPR k (20_memory.md R86). -/
def readRb (s : State) (k : Nib) : Res Byte := readB s (rbAddress s k)

/-- The pointer register of a 2-bit field: R0..R3 (10_state.md R20). -/
def pointerOf (i : BitVec 2) : Nib := i.setWidth 4

/-- The word GPR that holds byte GPR k (10_state.md R21). -/
def wordOfByteGpr (k : Nib) : Nib := BitVec.ofNat 4 (k.toNat / 2)

/-! ### Indirect operands

Every form gives the value read, or the address to write, with the state after the form's own effect on the pointer.
Where the access falls on the pointer's own word (`ownWord`) the source defines no result (20_memory.md R96): the value
read, stored or left in the pointer is a free value (log 8). -/

/-- The byte or word at `pa` lies in the pointer GPR's own word (20_memory.md R96). -/
def State.ownWord (s : State) (f : Nib) (pa : Nat) : Bool := wordAddress pa == s.gprAddress f

/-- The word read at `pa` through pointer f. -/
def readThroughW (s : State) (f : Nib) (pa : Nat) : Res (Word × State) :=
  (memReadW s pa).map (fun v => if s.ownWord f pa then s.drawWord else (v, s))

/-- The byte read at `pa` through pointer f. -/
def readThroughB (s : State) (f : Nib) (pa : Nat) : Res (Byte × State) :=
  (memReadB s pa).map (fun v => if s.ownWord f pa then s.drawByte else (v, s))

/-- The word that a store through a pointer leaves; `own` says that it falls on the pointer's own word. -/
def storedThroughW (s : State) (own : Bool) (v : Word) : Word × State :=
  if own then s.drawWord else (v, s)

/-- The byte that a store through a pointer leaves; `own` says that it falls on the pointer's own word. -/
def storedThroughB (s : State) (own : Bool) (v : Byte) : Byte × State :=
  if own then s.drawByte else (v, s)

/-- Read `[Rw]`, a word (20_memory.md R89). -/
def readIndW (s : State) (f : Nib) : Res (Word × State) := do
  let la ← readRw s f
  readThroughW s f (s.physData la)

/-- Read `[Rw]`, a byte (20_memory.md R89). -/
def readIndB (s : State) (f : Nib) : Res (Byte × State) := do
  let la ← readRw s f
  readThroughB s f (s.physData la)

/-- Read `[Rw+]`, a word, with the post-increment by 2 (20_memory.md R90). -/
def readIndIncW (s : State) (f : Nib) : Res (Word × State) := do
  let pointer ← rwAddress s f
  let la ← memReadW s pointer
  let (v, s) ← readThroughW s f (s.physData la)
  let s ← memWriteW s pointer (la + 2)
  return (v, s)

/-- Read `[Rw+]`, a byte, with the post-increment by 1 (20_memory.md R90). -/
def readIndIncB (s : State) (f : Nib) : Res (Byte × State) := do
  let pointer ← rwAddress s f
  let la ← memReadW s pointer
  let (v, s) ← readThroughB s f (s.physData la)
  let s ← memWriteW s pointer (la + 1)
  return (v, s)

/-- Read `[Rw+#data16]`, a word (20_memory.md R92). -/
def readDispW (s : State) (f : Nib) (disp : Word) : Res (Word × State) := do
  let p ← readRw s f
  readThroughW s f (s.physData (p + disp))

/-- Read `[Rw+#data16]`, a byte (20_memory.md R92). -/
def readDispB (s : State) (f : Nib) (disp : Word) : Res (Byte × State) := do
  let p ← readRw s f
  readThroughB s f (s.physData (p + disp))

/-- Write a word with its flags at `pa` through a pointer; `own` says that `pa` lies in the pointer's own word. -/
def finishThroughW (s : State) (own : Bool) (pa : Nat) (r : Flagged 16) : Res State :=
  let (v, s) := storedThroughW s own r.val
  finishW s pa { r with val := v }

/-- Write a byte with its flags at `pa` through a pointer; `own` says that `pa` lies in the pointer's own word. -/
def finishThroughB (s : State) (own : Bool) (pa : Nat) (r : Flagged 8) : Res State :=
  let (v, s) := storedThroughB s own r.val
  finishB s pa { r with val := v }

/-- Write a word to `[Rw]` (20_memory.md R89), then the flags. -/
def finishIndW (s : State) (f : Nib) (r : Flagged 16) : Res State := do
  let la ← readRw s f
  let pa := s.physData la
  finishThroughW s (s.ownWord f pa) pa r

/-- Write a byte to `[Rw]` (20_memory.md R89), then the flags. -/
def finishIndB (s : State) (f : Nib) (r : Flagged 8) : Res State := do
  let la ← readRw s f
  let pa := s.physData la
  finishThroughB s (s.ownWord f pa) pa r

/-- Write a word to `[Rw+#data16]` (20_memory.md R92), then the flags. -/
def finishDispW (s : State) (f : Nib) (disp : Word) (r : Flagged 16) : Res State := do
  let p ← readRw s f
  let pa := s.physData (p + disp)
  finishThroughW s (s.ownWord f pa) pa r

/-- Write a byte to `[Rw+#data16]` (20_memory.md R92), then the flags. -/
def finishDispB (s : State) (f : Nib) (disp : Word) (r : Flagged 8) : Res State := do
  let p ← readRw s f
  let pa := s.physData (p + disp)
  finishThroughB s (s.ownWord f pa) pa r

/-- Write a word to `[-Rw]`: the pointer goes down by 2 first (20_memory.md R91); then the flags. In a
bank laid over the SFR area (91_not_in_source.md N24) the pointer may be PSW itself: V and C are those before the
decrement, the model's choice (log 42). -/
def finishPreDecW (s : State) (f : Nib) (r : Flagged 16) : Res State := do
  let pointer ← rwAddress s f
  let p ← memReadW s pointer
  let la := p - 2
  let t ← memWriteW s pointer la
  let pa := t.physData la
  finishThroughW t (s.ownWord f pa) pa r

/-- Write a byte to `[-Rw]`: the pointer goes down by 1 first (20_memory.md R91); then the flags. In a
bank laid over the SFR area (91_not_in_source.md N24) the pointer may be PSW itself: V and C are those before the
decrement, the model's choice (log 42). -/
def finishPreDecB (s : State) (f : Nib) (r : Flagged 8) : Res State := do
  let pointer ← rwAddress s f
  let p ← memReadW s pointer
  let la := p - 1
  let t ← memWriteW s pointer la
  let pa := t.physData la
  finishThroughB t (s.ownWord f pa) pa r

/-- What a post-increment leaves in the pointer: a free value when `unclear` (20_memory.md R96), else `la + step`. -/
def afterIncrement (s : State) (unclear : Bool) (la step : Word) : Word × State :=
  if unclear then s.drawWord else (la + step, s)

/-- Write a word to `[Rw+]`, then the post-increment by 2 (20_memory.md R90), then the flags. `unclear` says that the
pointer is used twice (R96). The pointer's address is formed once, before the store: where the store writes CP, the word
of the old bank is incremented, the model's choice (log 41). Where the pointer is PSW itself, V and C are those before the
increment, the model's choice (log 42). -/
def finishIndIncW (s : State) (f : Nib) (unclear : Bool) (r : Flagged 16) : Res State := do
  let pointer ← rwAddress s f
  let la ← memReadW s pointer
  let pa := s.physData la
  let own := s.ownWord f pa
  let t ← memWriteW s pa r.val
  let (p, t) := afterIncrement t (unclear || own) la 2
  let t ← memWriteW t pointer p
  return t.setFlagsFor pa r.flags

/-- Write a byte to `[Rw+]`, then the post-increment by 1 (20_memory.md R90), then the flags. `unclear` says that the
pointer is used twice (R96). The pointer's address is formed once, before the store: where the store writes CP, the word
of the old bank is incremented, the model's choice (log 41). Where the pointer is PSW itself, V and C are those before the
increment, the model's choice (log 42). -/
def finishIndIncB (s : State) (f : Nib) (unclear : Bool) (r : Flagged 8) : Res State := do
  let pointer ← rwAddress s f
  let la ← memReadW s pointer
  let pa := s.physData la
  let own := s.ownWord f pa
  let t ← memWriteB s pa r.val
  let (p, t) := afterIncrement t (unclear || own) la 1
  let t ← memWriteW t pointer p
  return t.setFlagsFor pa r.flags

/-! ### Sources: the value read, with the state after the read -/

/-- Source `Rw`. -/
def fromRw (s : State) (n : Nib) : Res (Word × State) := (readRw s n).map (·, s)

/-- Source `Rb`. -/
def fromRb (s : State) (k : Nib) : Res (Byte × State) := (readRb s k).map (·, s)

/-- Source `reg`, a word (20_memory.md R87). -/
def fromRegW (s : State) (reg : Byte) : Res (Word × State) := (readW s (regAddressW s reg)).map (·, s)

/-- Source `reg`, a byte: an SFR's low byte or a byte GPR (20_memory.md R87). -/
def fromRegB (s : State) (reg : Byte) : Res (Byte × State) := (readB s (regAddressB s reg)).map (·, s)

/-- Source `mem`, a word (20_memory.md R88). -/
def fromMemW (s : State) (mem : Word) : Res (Word × State) := (memReadW s (s.physData mem)).map (·, s)

/-- Source `mem`, a byte (20_memory.md R88). -/
def fromMemB (s : State) (mem : Word) : Res (Byte × State) := (memReadB s (s.physData mem)).map (·, s)

/-- An immediate source: short constants are zero-extended (20_memory.md R94). -/
def fromConst {k : Nat} (w : Nat) (s : State) (c : BitVec k) : Res (BitVec w × State) := .ok (c.setWidth w, s)

/-! ### Destinations: where the result goes -/

/-- The address of operand `mem` (20_memory.md R88). -/
def memAddress (s : State) (mem : Word) : Res Nat := .ok (s.physData mem)

/-- Write a word result to the operand at an address, then the flags. -/
def toW (address : State → Res Nat) (s : State) (r : Flagged 16) : Res State := do
  let pa ← address s
  finishW s pa r

/-- Write a byte result to the operand at an address, then the flags. -/
def toB (address : State → Res Nat) (s : State) (r : Flagged 8) : Res State := do
  let pa ← address s
  finishB s pa r

end Sys2Proof.Machine
end

