-- ==== Sys2Proof/Machine/Templates.lean ====
section
/-! DEFINITION. What the instructions of one shape do with their operands, shared by the meanings
(40_arithmetic.md R218, 42_bit_and_compare.md R260, 43_loop_prior_shift.md R268, R269, 44_data_movement.md R288, R289). -/

namespace Sys2Proof.Machine

/-! ### Arithmetic and logic (40_arithmetic.md R218) -/

/-- A word operation: read op2 with its side effect, read op1, write op1, write the flags (40_arithmetic.md R218). `before`
are the flags before the instruction: R202 says so of the Z that ADDC chains. That the carry of ADDC, and the borrow and the
chained Z of SUBC, are those too where the pointer of `[Rwi+]` is PSW itself, is the model's choice (R202, R206; log 46). -/
def aluW (op : AluOp) (before : Flags) (source : Res (Word × State)) (address : State → Res Nat) : Res State := do
  let (b, s) ← source
  let pa ← address s
  let a ← memReadW s pa
  finishW s pa (op.eval before a b)

/-- A byte operation (40_arithmetic.md R218), with the flags before the instruction as `aluW` takes them: by R203 for the Z of
ADDCB; the model's choice for its carry, and for the borrow and the chained Z of SUBCB (R203, R207; log 46). -/
def aluB (op : AluOp) (before : Flags) (source : Res (Byte × State)) (address : State → Res Nat) : Res State := do
  let (b, s) ← source
  let pa ← address s
  let a ← memReadB s pa
  finishB s pa (op.eval before a b)

/-- `Rwn, [Rwi+]`. When Rwi is Rwn the source defines no result (20_memory.md R96): the first operand and what is left
in the register are free values; the flags are computed from that operand (log 8) and from those before (log 46). -/
def aluRwIndInc (op : AluOp) (s : State) (n : Nib) (i : BitVec 2) : Res State :=
  if pointerOf i = n then do
    let (b, t) ← readIndIncW s n
    let (a, t) := t.drawWord
    let (r, t) := t.drawWord
    let pa ← rwAddress t n
    finishW t pa { val := r, flags := (op.eval s.flags a b).flags }
  else aluW op s.flags (readIndIncW s (pointerOf i)) (rwAddress · n)

/-- `Rbn, [Rwi+]`. When Rbn lies in Rwi the source defines no result (20_memory.md R96): the first operand and what is
left in the word are free values; the flags are computed from that operand (log 8) and from those before (log 46). -/
def aluRbIndInc (op : AluOp) (s : State) (n : Nib) (i : BitVec 2) : Res State :=
  if pointerOf i = wordOfByteGpr n then do
    let (b, t) ← readIndIncB s (pointerOf i)
    let (a, t) := t.drawByte
    let (r, t) := t.drawWord
    let pa ← rwAddress t (pointerOf i)
    finishW t pa { val := r, flags := (op.eval s.flags a b).flags }
  else aluB op s.flags (readIndIncB s (pointerOf i)) (rbAddress · n)

/-- SUBCB's operation, which the parameter subcb_z_chained selects (40_arithmetic.md R207, log 11). -/
def subcbOp (s : State) : AluOp := if s.cfg.subcbZChained then .subc else .subcPlainZ

/-- CMP: the flags of op1 - op2, nothing written (42_bit_and_compare.md R262). -/
def compareW (source : Res (Word × State)) (address : State → Res Nat) : Res State := do
  let (b, s) ← source
  let a ← readW s (address s)
  return s.setFlags (compareFlags a b)

/-- CMPB (42_bit_and_compare.md R263). -/
def compareB (source : Res (Byte × State)) (address : State → Res Nat) : Res State := do
  let (b, s) ← source
  let a ← readB s (address s)
  return s.setFlags (compareFlags a b)

/-- CMP `Rwn, [Rwi+]`; when Rwi is Rwn the first operand is a free value (20_memory.md R96, log 8). -/
def compareRwIndInc (s : State) (n : Nib) (i : BitVec 2) : Res State :=
  if pointerOf i = n then do
    let (b, s) ← readIndIncW s n
    let (a, s) := s.drawWord
    return s.setFlags (compareFlags a b)
  else compareW (readIndIncW s (pointerOf i)) (rwAddress · n)

/-- CMPB `Rbn, [Rwi+]`; when Rbn lies in Rwi the first operand is a free value (20_memory.md R96, log 8). -/
def compareRbIndInc (s : State) (n : Nib) (i : BitVec 2) : Res State :=
  if pointerOf i = wordOfByteGpr n then do
    let (b, s) ← readIndIncB s (pointerOf i)
    let (a, s) := s.drawByte
    return s.setFlags (compareFlags a b)
  else compareB (readIndIncB s (pointerOf i)) (rbAddress · n)

/-- CPL, NEG: a word operation on one GPR (40_arithmetic.md R214, R216). -/
def unaryRw (f : Word → Flagged 16) (s : State) (n : Nib) : Res State := do
  let pa ← rwAddress s n
  let a ← memReadW s pa
  finishW s pa (f a)

/-- CPLB, NEGB: a byte operation on one GPR (40_arithmetic.md R215, R217). -/
def unaryRb (f : Byte → Flagged 8) (s : State) (n : Nib) : Res State := do
  let pa ← rbAddress s n
  let a ← memReadB s pa
  finishB s pa (f a)

/-! ### Multiplication and division (40_arithmetic.md R208 to R213, R220) -/

/-- MUL, MULU: the product of two GPRs goes to MD (40_arithmetic.md R208, R209). -/
def multiply (f : Word → Word → ProductFlagged) (s : State) (n m : Nib) : Res State := do
  let a ← readRw s n
  let b ← readRw s m
  let p := f a b
  return { s with mdh := p.val.extractLsb' 16 16, mdl := p.val.extractLsb' 0 16 }.setFlags p.flags

/-- A division's end: quotient and remainder in MDL and MDH with the quotient's flags, or V set, E and C cleared and
MDL, MDH, Z and N free (40_arithmetic.md R210 to R213, R220; log 9). -/
def finishDivision (s : State) (d : Option Division) : State :=
  match d with
  | some d => { s with mdl := d.quotient, mdh := d.remainder }.setFlags (quotientFlags d.quotient)
  | none =>
    let (l, s) := s.drawWord
    let (h, s) := s.drawWord
    let (z, s) := s.drawBit
    let (n, s) := s.drawBit
    { s with mdl := l, mdh := h }.setFlags { e := false, z := z, v := true, c := false, n := n }

/-- MD = MDH :: MDL (10_state.md R41). -/
def State.md (s : State) : BitVec 32 := s.mdh ++ s.mdl

/-- A division of the state by GPR n (40_arithmetic.md R210 to R213). -/
def divide (f : State → Word → Option Division) (s : State) (n : Nib) : Res State := do
  let d ← readRw s n
  return finishDivision s (f s d)

/-! ### Bits (42_bit_and_compare.md R260, R261) -/

/-- Replace bit `p` of the word at a `bitoff` operand, then the flags, unless the word is PSW
(42_bit_and_compare.md R260, R261). The new bit and the flags are functions of the old bit. -/
def updateBit (s : State) (bitoff : Byte) (p : Nib) (f : Bool → Bool) (flags : Bool → Flags) : Res State := do
  let pa ← bitoffAddress s bitoff
  let w ← memReadW s pa
  let old := bitOf w p
  finishW s pa { val := withBit w p (f old), flags := flags old }

/-- Read a bit operand (42_bit_and_compare.md R260). -/
def readBit (s : State) (bitoff : Byte) (p : Nib) : Res Bool :=
  (readW s (bitoffAddress s bitoff)).map (bitOf · p)

/-- A bit instruction with a source and a destination bit: the new bit and the flags are functions of the destination
bit and the source bit, both read before (42_bit_and_compare.md R252 to R256, R260). -/
def combineBits (s : State) (dst : Byte) (dpos : Nib) (src : Byte) (spos : Nib) (f : Bool → Bool → Bool)
    (flags : Bool → Bool → Flags) : Res State := do
  let q ← readBit s src spos
  updateBit s dst dpos (f · q) (flags · q)

/-- BCMP: both bits are only read; the flags are always updated (42_bit_and_compare.md R257, R261). -/
def compareBits (s : State) (dst : Byte) (dpos : Nib) (src : Byte) (spos : Nib) : Res State := do
  let q ← readBit s src spos
  let d ← readBit s dst dpos
  return s.setFlags (twoBitFlags d q)

/-- BFLDL, BFLDH: the word result is a function of the old word (42_bit_and_compare.md R258, R259). -/
def updateField (s : State) (bitoff : Byte) (f : Word → Word) : Res State := do
  let pa ← bitoffAddress s bitoff
  let w ← memReadW s pa
  finishW s pa { val := f w, flags := fieldFlags (f w) }

/-- The new value of a byte of a bit field: AND with the complement of the mask, OR with the data
(42_bit_and_compare.md R258, R259). -/
def fieldByte (old mask data : Byte) : Byte := (old &&& ~~~mask) ||| data

/-! ### Compare and loop, shift (43_loop_prior_shift.md R268, R269) -/

/-- CMPD1, CMPD2, CMPI1, CMPI2: compare, then add `delta` to the GPR (43_loop_prior_shift.md R269). -/
def compareLoop (delta : Word) (source : Res (Word × State)) (n : Nib) : Res State := do
  let (b, s) ← source
  let pa ← rwAddress s n
  let a ← memReadW s pa
  finishW s pa { val := a + delta, flags := compareFlags a b }

/-- SHL, SHR, ROL, ROR, ASHR: the count is the low four bits of the source (43_loop_prior_shift.md R268). -/
def shift {k : Nat} (op : ShiftOp) (source : Res (BitVec k × State)) (n : Nib) : Res State := do
  let (b, s) ← source
  let pa ← rwAddress s n
  let x ← memReadW s pa
  finishW s pa (op.eval x (b.setWidth 4))

/-- PRIOR: the count goes to GPR n, Z says that op2 is zero (43_loop_prior_shift.md R274). -/
def prioritize (s : State) (n m : Nib) : Res State := do
  let v ← readRw s m
  toW (rwAddress · n) s
    { val := BitVec.ofNat 16 (priorCount v), flags := { e := false, z := zOf v, v := false, c := false, n := false } }

/-! ### Moves (44_data_movement.md R288, R289) -/

/-- MOV: the source goes to the destination; E, Z, N of the value moved (44_data_movement.md R288). V and C are those after
the source was read: after the increment of `[Rwm+]`, also where that pointer is PSW itself, the model's choice (log 42). -/
def moveW (source : Res (Word × State)) (put : State → Flagged 16 → Res State) : Res State := do
  let (v, s) ← source
  put s { val := v, flags := moveFlags s.flags v }

/-- MOVB (44_data_movement.md R288), with V and C as `moveW` takes them (log 42). -/
def moveB (source : Res (Byte × State)) (put : State → Flagged 8 → Res State) : Res State := do
  let (v, s) ← source
  put s { val := v, flags := moveFlags s.flags v }

/-- MOVBS, MOVBZ: the extended byte goes to a word; the flags are those of the byte (44_data_movement.md R330, R333). -/
def moveExtended (extend : Byte → Word) (flags : Flags → Byte → Flags) (source : Res (Byte × State))
    (address : State → Res Nat) : Res State := do
  let (v, s) ← source
  toW address s { val := extend v, flags := flags s.flags v }

/-- MOV `Rwn, [Rwm+]`. When n = m what is left in the register is a free value (20_memory.md R96, log 8). -/
def moveRwIndInc (s : State) (n m : Nib) : Res State :=
  if m = n then do
    let (v, s) ← readIndIncW s m
    let (r, s) := s.drawWord
    toW (rwAddress · n) s { val := r, flags := moveFlags s.flags v }
  else moveW (readIndIncW s m) (toW (rwAddress · n))

/-- MOVB `Rbn, [Rwm+]`. When Rbn lies in Rwm what is left in the word is a free value (20_memory.md R96, log 8). -/
def moveRbIndInc (s : State) (n m : Nib) : Res State :=
  if m = wordOfByteGpr n then do
    let (v, s) ← readIndIncB s m
    let (r, s) := s.drawWord
    toW (rwAddress · m) s { val := r, flags := moveFlags s.flags v }
  else moveB (readIndIncB s m) (toB (rbAddress · n))

/-- MOV `[-Rwm], Rwn`. When n = m the value moved is a free value (20_memory.md R96, log 8). -/
def movePreDecRw (s : State) (m n : Nib) : Res State :=
  if m = n then moveW (.ok s.drawWord) (finishPreDecW · m) else moveW (fromRw s n) (finishPreDecW · m)

/-- MOVB `[-Rwm], Rbn`. When Rbn lies in Rwm the value moved is a free value (20_memory.md R96, log 8). -/
def movePreDecRb (s : State) (m n : Nib) : Res State :=
  if m = wordOfByteGpr n then moveB (.ok s.drawByte) (finishPreDecB · m) else moveB (fromRb s n) (finishPreDecB · m)

/-- MOV `[Rwn+], [Rwm]`. When n = m what the increment leaves in the pointer is a free value (20_memory.md R96, log 8). -/
def moveIndIncIndW (s : State) (n m : Nib) : Res State :=
  moveW (readIndW s m) (finishIndIncW · n (decide (n = m)))

/-- MOVB `[Rwn+], [Rwm]`. When n = m what the increment leaves in the pointer is a free value
(20_memory.md R96, log 8). -/
def moveIndIncIndB (s : State) (n m : Nib) : Res State :=
  moveB (readIndB s m) (finishIndIncB · n (decide (n = m)))

/-- MOV `[Rwn], [Rwm+]`. When n = m a free bit says whether the destination address is the pointer before or after the
increment (20_memory.md R96, log 8). -/
def moveIndIndIncW (s : State) (n m : Nib) : Res State :=
  if n = m then do
    let la ← readRw s m
    let (v, t) ← readIndIncW s m
    let (before, t) := t.drawBit
    let pa := t.physData (if before then la else la + 2)
    finishThroughW t (s.ownWord n pa) pa { val := v, flags := moveFlags t.flags v }
  else moveW (readIndIncW s m) (finishIndW · n)

/-- MOVB `[Rwn], [Rwm+]`. When n = m a free bit says whether the destination address is the pointer before or after the
increment (20_memory.md R96, log 8). -/
def moveIndIndIncB (s : State) (n m : Nib) : Res State :=
  if n = m then do
    let la ← readRw s m
    let (v, t) ← readIndIncB s m
    let (before, t) := t.drawBit
    let pa := t.physData (if before then la else la + 1)
    finishThroughB t (s.ownWord n pa) pa { val := v, flags := moveFlags t.flags v }
  else moveB (readIndIncB s m) (finishIndB · n)

/-! ### Jumps (45_jump_call.md R339, R342) -/

/-- RelTarget(rr): IPnext plus twice the sign-extended displacement (45_jump_call.md R342). -/
def relTarget (next : Word) (rel : Byte) : Word := next + 2 * rel.signExtend 16

/-- Go to `target` if a condition holds, else to the following instruction. -/
def branch (s : State) (length : Nat) (taken : Bool) (target : Word) : State :=
  s.goto (if taken then target else s.ipNext length)

/-- JB, JNB: branch when the bit has the wanted value (45_jump_call.md R347, R349). -/
def jumpOnBit (s : State) (wanted : Bool) (bitoff : Byte) (pos : Nib) (rel : Byte) : Res State := do
  let b ← readBit s bitoff pos
  return branch s 4 (b == wanted) (relTarget (s.ipNext 4) rel)

/-- JBC, JNBS: as JB, JNB, and where the branch is taken the bit is inverted; a bit that does not have the wanted value
is not written (45_jump_call.md R348, R350). -/
def jumpOnBitAndChange (s : State) (wanted : Bool) (bitoff : Byte) (pos : Nib) (rel : Byte) : Res State := do
  let pa ← bitoffAddress s bitoff
  let w ← memReadW s pa
  let old := bitOf w pos
  let t ← memWriteWhenW s (old == wanted) pa (withBit w pos (!old))
  return branch (t.setFlagsFor pa (bitFlags old)) 4 (old == wanted) (relTarget (s.ipNext 4) rel)

/-- Push the return address and go to the target (45_jump_call.md R351 to R355). -/
def call (s : State) (length : Nat) (target : Word) : Res State :=
  (push s (s.ipNext length)).map (·.goto target)

/-- CALLS: CSP is pushed first, so the return IP lies at the lower address (45_jump_call.md R354). -/
def callSegment (s : State) (seg : Byte) (caddr : Word) : Res State := do
  let t ← push s (s.csp.setWidth 16)
  let t ← push t (s.ipNext 4)
  return { t with csp := segOf t.cfg.variant seg }.goto caddr

/-! ### Stack (46_stack_return.md R370 to R376) -/

/-- E, Z, N of a word pushed or popped (46_stack_return.md R370, R371, R376; 45_jump_call.md R355). -/
def State.setMoveFlags (s : State) (v : Word) : State := s.setFlags (moveFlags s.flags v)

/-- Write a popped word to `reg`, with its flags unless `reg` is PSW (46_stack_return.md R369, R370, R376). -/
def popToReg (s : State) (reg : Byte) (v : Word) : Res State :=
  toW (regAddressW · reg) s { val := v, flags := moveFlags s.flags v }

/-- POP (46_stack_return.md R370). -/
def popInto (s : State) (reg : Byte) : Res State := do
  let (v, s) ← pop s
  popToReg s reg v

/-- PUSH: the value is read before SP moves (46_stack_return.md R371). -/
def pushFrom (s : State) (reg : Byte) : Res State := do
  let v ← readW s (regAddressW s reg)
  let s ← push s v
  return s.setMoveFlags v

/-- PCALL: the register, then the return address; flags of the register's value (45_jump_call.md R355). -/
def pushAndCall (s : State) (reg : Byte) (caddr : Word) : Res State := do
  let v ← readW s (regAddressW s reg)
  let t ← push s v
  let t ← push t (s.ipNext 4)
  return (t.setMoveFlags v).goto caddr

/-- RET (46_stack_return.md R374). -/
def returnNear (s : State) : Res State := (pop s).map (fun p => p.2.goto p.1)

/-- RETS (46_stack_return.md R375). -/
def returnSegment (s : State) : Res State := do
  let (target, s) ← pop s
  let (seg, s) ← pop s
  return { s with csp := segOf s.cfg.variant (lowByte seg) }.goto target

/-- RETP (46_stack_return.md R376). -/
def returnAndPop (s : State) (reg : Byte) : Res State := do
  let (target, s) ← pop s
  let (v, s) ← pop s
  let s ← popToReg s reg v
  return s.goto target

/-- SCXT: push the register, load the new value; no flags. The register's address is formed again for the write: a push
that lands on CP moves the bank (46_stack_return.md R372, R373). -/
def switchContext (s : State) (reg : Byte) (source : Res (Word × State)) : Res State := do
  let pa ← regAddressW s reg
  let old ← memReadW s pa
  let (new, s) ← source
  let s ← push s old
  let pa ← regAddressW s reg
  memWriteW s pa new

/-! ### Sequences (47_system_control.md R399) -/

/-- StartSeq(g, sfr, page, seg): reload the counter and replace the three mode fields (47_system_control.md R399). -/
def startSequence (s : State) (irang2 : BitVec 2) (sfr : SfrRange) (data : DataOverride) : State :=
  { s with seqCount := irang2.toNat + 1, extSfr := sfr, extData := data }

/-- EXTP, EXTPR with a register: the low 10 bits of the GPR, read once (47_system_control.md R402, R404, D25). -/
def startPage (s : State) (m : Nib) (irang2 : BitVec 2) (sfr : SfrRange) : Res State :=
  (readRw s m).map (fun p => startSequence s irang2 sfr (.page (p.setWidth 10)))

/-- EXTS, EXTSR with a register: the low 8 bits of the GPR, read once (47_system_control.md R406, R408, D25). -/
def startSegment (s : State) (m : Nib) (irang2 : BitVec 2) (sfr : SfrRange) : Res State :=
  (readRw s m).map (fun p => startSequence s irang2 sfr (.segment (lowByte p)))

end Sys2Proof.Machine
end

