-- ==== Sys2Proof/Machine/Arithmetic.lean ====
section
/-! DEFINITION. The meanings of ADD, ADDC, SUB, SUBC, CPL, NEG and their byte versions, MUL, MULU, DIV, DIVL, DIVLU, DIVU (40_arithmetic.md): one definition per addressing form. -/

namespace Sys2Proof.Machine

/-- ADD Rwn, Rwm (R200). -/
def execAddRwRw (n m : Nib) (s : State) : Host.Outcome State Fault Refusal :=
  complete 2 s (aluW .add s.flags (fromRw s m) (rwAddress · n))

/-- ADD Rwn, [Rwi] (R200). -/
def execAddRwInd (n : Nib) (i : BitVec 2) (s : State) : Host.Outcome State Fault Refusal :=
  complete 2 s (aluW .add s.flags (readIndW s (pointerOf i)) (rwAddress · n))

/-- ADD Rwn, [Rwi+] (R200). -/
def execAddRwIndInc (n : Nib) (i : BitVec 2) (s : State) : Host.Outcome State Fault Refusal :=
  complete 2 s (aluRwIndInc .add s n i)

/-- ADD Rwn, #data3 (R200). -/
def execAddRwData3 (n : Nib) (data3 : BitVec 3) (s : State) : Host.Outcome State Fault Refusal :=
  complete 2 s (aluW .add s.flags (fromConst 16 s data3) (rwAddress · n))

/-- ADD reg, #data16 (R200). -/
def execAddRegData16 (reg : Byte) (data16 : Word) (s : State) : Host.Outcome State Fault Refusal :=
  complete 4 s (aluW .add s.flags (fromConst 16 s data16) (regAddressW · reg))

/-- ADD reg, mem (R200). -/
def execAddRegMem (reg : Byte) (mem : Word) (s : State) : Host.Outcome State Fault Refusal :=
  complete 4 s (aluW .add s.flags (fromMemW s mem) (regAddressW · reg))

/-- ADD mem, reg (R200). -/
def execAddMemReg (mem : Word) (reg : Byte) (s : State) : Host.Outcome State Fault Refusal :=
  complete 4 s (aluW .add s.flags (fromRegW s reg) (memAddress · mem))

/-- ADDB Rbn, Rbm (R201). -/
def execAddbRbRb (n m : Nib) (s : State) : Host.Outcome State Fault Refusal :=
  complete 2 s (aluB .add s.flags (fromRb s m) (rbAddress · n))

/-- ADDB Rbn, [Rwi] (R201). -/
def execAddbRbInd (n : Nib) (i : BitVec 2) (s : State) : Host.Outcome State Fault Refusal :=
  complete 2 s (aluB .add s.flags (readIndB s (pointerOf i)) (rbAddress · n))

/-- ADDB Rbn, [Rwi+] (R201). -/
def execAddbRbIndInc (n : Nib) (i : BitVec 2) (s : State) : Host.Outcome State Fault Refusal :=
  complete 2 s (aluRbIndInc .add s n i)

/-- ADDB Rbn, #data3 (R201). -/
def execAddbRbData3 (n : Nib) (data3 : BitVec 3) (s : State) : Host.Outcome State Fault Refusal :=
  complete 2 s (aluB .add s.flags (fromConst 8 s data3) (rbAddress · n))

/-- ADDB reg, #data8 (R201). -/
def execAddbRegData8 (reg data8 : Byte) (s : State) : Host.Outcome State Fault Refusal :=
  complete 4 s (aluB .add s.flags (fromConst 8 s data8) (regAddressB · reg))

/-- ADDB reg, mem (R201). -/
def execAddbRegMem (reg : Byte) (mem : Word) (s : State) : Host.Outcome State Fault Refusal :=
  complete 4 s (aluB .add s.flags (fromMemB s mem) (regAddressB · reg))

/-- ADDB mem, reg (R201). -/
def execAddbMemReg (mem : Word) (reg : Byte) (s : State) : Host.Outcome State Fault Refusal :=
  complete 4 s (aluB .add s.flags (fromRegB s reg) (memAddress · mem))

/-- ADDC Rwn, Rwm (R202). -/
def execAddcRwRw (n m : Nib) (s : State) : Host.Outcome State Fault Refusal :=
  complete 2 s (aluW .addc s.flags (fromRw s m) (rwAddress · n))

/-- ADDC Rwn, [Rwi] (R202). -/
def execAddcRwInd (n : Nib) (i : BitVec 2) (s : State) : Host.Outcome State Fault Refusal :=
  complete 2 s (aluW .addc s.flags (readIndW s (pointerOf i)) (rwAddress · n))

/-- ADDC Rwn, [Rwi+] (R202). -/
def execAddcRwIndInc (n : Nib) (i : BitVec 2) (s : State) : Host.Outcome State Fault Refusal :=
  complete 2 s (aluRwIndInc .addc s n i)

/-- ADDC Rwn, #data3 (R202). -/
def execAddcRwData3 (n : Nib) (data3 : BitVec 3) (s : State) : Host.Outcome State Fault Refusal :=
  complete 2 s (aluW .addc s.flags (fromConst 16 s data3) (rwAddress · n))

/-- ADDC reg, #data16 (R202). -/
def execAddcRegData16 (reg : Byte) (data16 : Word) (s : State) : Host.Outcome State Fault Refusal :=
  complete 4 s (aluW .addc s.flags (fromConst 16 s data16) (regAddressW · reg))

/-- ADDC reg, mem (R202). -/
def execAddcRegMem (reg : Byte) (mem : Word) (s : State) : Host.Outcome State Fault Refusal :=
  complete 4 s (aluW .addc s.flags (fromMemW s mem) (regAddressW · reg))

/-- ADDC mem, reg (R202). -/
def execAddcMemReg (mem : Word) (reg : Byte) (s : State) : Host.Outcome State Fault Refusal :=
  complete 4 s (aluW .addc s.flags (fromRegW s reg) (memAddress · mem))

/-- ADDCB Rbn, Rbm (R203). -/
def execAddcbRbRb (n m : Nib) (s : State) : Host.Outcome State Fault Refusal :=
  complete 2 s (aluB .addc s.flags (fromRb s m) (rbAddress · n))

/-- ADDCB Rbn, [Rwi] (R203). -/
def execAddcbRbInd (n : Nib) (i : BitVec 2) (s : State) : Host.Outcome State Fault Refusal :=
  complete 2 s (aluB .addc s.flags (readIndB s (pointerOf i)) (rbAddress · n))

/-- ADDCB Rbn, [Rwi+] (R203). -/
def execAddcbRbIndInc (n : Nib) (i : BitVec 2) (s : State) : Host.Outcome State Fault Refusal :=
  complete 2 s (aluRbIndInc .addc s n i)

/-- ADDCB Rbn, #data3 (R203). -/
def execAddcbRbData3 (n : Nib) (data3 : BitVec 3) (s : State) : Host.Outcome State Fault Refusal :=
  complete 2 s (aluB .addc s.flags (fromConst 8 s data3) (rbAddress · n))

/-- ADDCB reg, #data8 (R203). -/
def execAddcbRegData8 (reg data8 : Byte) (s : State) : Host.Outcome State Fault Refusal :=
  complete 4 s (aluB .addc s.flags (fromConst 8 s data8) (regAddressB · reg))

/-- ADDCB reg, mem (R203). -/
def execAddcbRegMem (reg : Byte) (mem : Word) (s : State) : Host.Outcome State Fault Refusal :=
  complete 4 s (aluB .addc s.flags (fromMemB s mem) (regAddressB · reg))

/-- ADDCB mem, reg (R203). -/
def execAddcbMemReg (mem : Word) (reg : Byte) (s : State) : Host.Outcome State Fault Refusal :=
  complete 4 s (aluB .addc s.flags (fromRegB s reg) (memAddress · mem))

/-- SUB Rwn, Rwm (R204). -/
def execSubRwRw (n m : Nib) (s : State) : Host.Outcome State Fault Refusal :=
  complete 2 s (aluW .sub s.flags (fromRw s m) (rwAddress · n))

/-- SUB Rwn, [Rwi] (R204). -/
def execSubRwInd (n : Nib) (i : BitVec 2) (s : State) : Host.Outcome State Fault Refusal :=
  complete 2 s (aluW .sub s.flags (readIndW s (pointerOf i)) (rwAddress · n))

/-- SUB Rwn, [Rwi+] (R204). -/
def execSubRwIndInc (n : Nib) (i : BitVec 2) (s : State) : Host.Outcome State Fault Refusal :=
  complete 2 s (aluRwIndInc .sub s n i)

/-- SUB Rwn, #data3 (R204). -/
def execSubRwData3 (n : Nib) (data3 : BitVec 3) (s : State) : Host.Outcome State Fault Refusal :=
  complete 2 s (aluW .sub s.flags (fromConst 16 s data3) (rwAddress · n))

/-- SUB reg, #data16 (R204). -/
def execSubRegData16 (reg : Byte) (data16 : Word) (s : State) : Host.Outcome State Fault Refusal :=
  complete 4 s (aluW .sub s.flags (fromConst 16 s data16) (regAddressW · reg))

/-- SUB reg, mem (R204). -/
def execSubRegMem (reg : Byte) (mem : Word) (s : State) : Host.Outcome State Fault Refusal :=
  complete 4 s (aluW .sub s.flags (fromMemW s mem) (regAddressW · reg))

/-- SUB mem, reg (R204). -/
def execSubMemReg (mem : Word) (reg : Byte) (s : State) : Host.Outcome State Fault Refusal :=
  complete 4 s (aluW .sub s.flags (fromRegW s reg) (memAddress · mem))

/-- SUBB Rbn, Rbm (R205). -/
def execSubbRbRb (n m : Nib) (s : State) : Host.Outcome State Fault Refusal :=
  complete 2 s (aluB .sub s.flags (fromRb s m) (rbAddress · n))

/-- SUBB Rbn, [Rwi] (R205). -/
def execSubbRbInd (n : Nib) (i : BitVec 2) (s : State) : Host.Outcome State Fault Refusal :=
  complete 2 s (aluB .sub s.flags (readIndB s (pointerOf i)) (rbAddress · n))

/-- SUBB Rbn, [Rwi+] (R205). -/
def execSubbRbIndInc (n : Nib) (i : BitVec 2) (s : State) : Host.Outcome State Fault Refusal :=
  complete 2 s (aluRbIndInc .sub s n i)

/-- SUBB Rbn, #data3 (R205). -/
def execSubbRbData3 (n : Nib) (data3 : BitVec 3) (s : State) : Host.Outcome State Fault Refusal :=
  complete 2 s (aluB .sub s.flags (fromConst 8 s data3) (rbAddress · n))

/-- SUBB reg, #data8 (R205). -/
def execSubbRegData8 (reg data8 : Byte) (s : State) : Host.Outcome State Fault Refusal :=
  complete 4 s (aluB .sub s.flags (fromConst 8 s data8) (regAddressB · reg))

/-- SUBB reg, mem (R205). -/
def execSubbRegMem (reg : Byte) (mem : Word) (s : State) : Host.Outcome State Fault Refusal :=
  complete 4 s (aluB .sub s.flags (fromMemB s mem) (regAddressB · reg))

/-- SUBB mem, reg (R205). -/
def execSubbMemReg (mem : Word) (reg : Byte) (s : State) : Host.Outcome State Fault Refusal :=
  complete 4 s (aluB .sub s.flags (fromRegB s reg) (memAddress · mem))

/-- SUBC Rwn, Rwm (R206). -/
def execSubcRwRw (n m : Nib) (s : State) : Host.Outcome State Fault Refusal :=
  complete 2 s (aluW .subc s.flags (fromRw s m) (rwAddress · n))

/-- SUBC Rwn, [Rwi] (R206). -/
def execSubcRwInd (n : Nib) (i : BitVec 2) (s : State) : Host.Outcome State Fault Refusal :=
  complete 2 s (aluW .subc s.flags (readIndW s (pointerOf i)) (rwAddress · n))

/-- SUBC Rwn, [Rwi+] (R206). -/
def execSubcRwIndInc (n : Nib) (i : BitVec 2) (s : State) : Host.Outcome State Fault Refusal :=
  complete 2 s (aluRwIndInc .subc s n i)

/-- SUBC Rwn, #data3 (R206). -/
def execSubcRwData3 (n : Nib) (data3 : BitVec 3) (s : State) : Host.Outcome State Fault Refusal :=
  complete 2 s (aluW .subc s.flags (fromConst 16 s data3) (rwAddress · n))

/-- SUBC reg, #data16 (R206). -/
def execSubcRegData16 (reg : Byte) (data16 : Word) (s : State) : Host.Outcome State Fault Refusal :=
  complete 4 s (aluW .subc s.flags (fromConst 16 s data16) (regAddressW · reg))

/-- SUBC reg, mem (R206). -/
def execSubcRegMem (reg : Byte) (mem : Word) (s : State) : Host.Outcome State Fault Refusal :=
  complete 4 s (aluW .subc s.flags (fromMemW s mem) (regAddressW · reg))

/-- SUBC mem, reg (R206). -/
def execSubcMemReg (mem : Word) (reg : Byte) (s : State) : Host.Outcome State Fault Refusal :=
  complete 4 s (aluW .subc s.flags (fromRegW s reg) (memAddress · mem))

/-- SUBCB Rbn, Rbm (R207). -/
def execSubcbRbRb (n m : Nib) (s : State) : Host.Outcome State Fault Refusal :=
  complete 2 s (aluB (subcbOp s) s.flags (fromRb s m) (rbAddress · n))

/-- SUBCB Rbn, [Rwi] (R207). -/
def execSubcbRbInd (n : Nib) (i : BitVec 2) (s : State) : Host.Outcome State Fault Refusal :=
  complete 2 s (aluB (subcbOp s) s.flags (readIndB s (pointerOf i)) (rbAddress · n))

/-- SUBCB Rbn, [Rwi+] (R207). -/
def execSubcbRbIndInc (n : Nib) (i : BitVec 2) (s : State) : Host.Outcome State Fault Refusal :=
  complete 2 s (aluRbIndInc (subcbOp s) s n i)

/-- SUBCB Rbn, #data3 (R207). -/
def execSubcbRbData3 (n : Nib) (data3 : BitVec 3) (s : State) : Host.Outcome State Fault Refusal :=
  complete 2 s (aluB (subcbOp s) s.flags (fromConst 8 s data3) (rbAddress · n))

/-- SUBCB reg, #data8 (R207). -/
def execSubcbRegData8 (reg data8 : Byte) (s : State) : Host.Outcome State Fault Refusal :=
  complete 4 s (aluB (subcbOp s) s.flags (fromConst 8 s data8) (regAddressB · reg))

/-- SUBCB reg, mem (R207). -/
def execSubcbRegMem (reg : Byte) (mem : Word) (s : State) : Host.Outcome State Fault Refusal :=
  complete 4 s (aluB (subcbOp s) s.flags (fromMemB s mem) (regAddressB · reg))

/-- SUBCB mem, reg (R207). -/
def execSubcbMemReg (mem : Word) (reg : Byte) (s : State) : Host.Outcome State Fault Refusal :=
  complete 4 s (aluB (subcbOp s) s.flags (fromRegB s reg) (memAddress · mem))

/-- MUL Rwn, Rwm (R208). -/
def execMul (n m : Nib) (s : State) : Host.Outcome State Fault Refusal :=
  complete 2 s (multiply mulSigned s n m)

/-- MULU Rwn, Rwm (R209). -/
def execMulu (n m : Nib) (s : State) : Host.Outcome State Fault Refusal :=
  complete 2 s (multiply mulUnsigned s n m)

/-- DIV Rwn (R210). -/
def execDiv (n : Nib) (s : State) : Host.Outcome State Fault Refusal :=
  complete 2 s (divide (fun s d => divideSigned s.cfg.sdiv s.mdl.toInt d.toInt) s n)

/-- DIVL Rwn (R211). -/
def execDivl (n : Nib) (s : State) : Host.Outcome State Fault Refusal :=
  complete 2 s (divide (fun s d => divideSigned s.cfg.sdiv s.md.toInt d.toInt) s n)

/-- DIVLU Rwn (R212). -/
def execDivlu (n : Nib) (s : State) : Host.Outcome State Fault Refusal :=
  complete 2 s (divide (fun s d => divideUnsigned s.md.toNat d.toNat) s n)

/-- DIVU Rwn (R213). -/
def execDivu (n : Nib) (s : State) : Host.Outcome State Fault Refusal :=
  complete 2 s (divide (fun s d => divideUnsigned s.mdl.toNat d.toNat) s n)

/-- CPL Rwn (R214). -/
def execCpl (n : Nib) (s : State) : Host.Outcome State Fault Refusal :=
  complete 2 s (unaryRw complement s n)

/-- CPLB Rbn (R215). -/
def execCplb (n : Nib) (s : State) : Host.Outcome State Fault Refusal :=
  complete 2 s (unaryRb complement s n)

/-- NEG Rwn (R216). -/
def execNeg (n : Nib) (s : State) : Host.Outcome State Fault Refusal :=
  complete 2 s (unaryRw negate s n)

/-- NEGB Rbn (R217). -/
def execNegb (n : Nib) (s : State) : Host.Outcome State Fault Refusal :=
  complete 2 s (unaryRb negate s n)

end Sys2Proof.Machine
end

