-- ==== Sys2Proof/Machine/Bits.lean ====
section
/-! DEFINITION. The meanings of BCLR, BSET, BMOV, BMOVN, BAND, BOR, BXOR, BCMP, BFLDH, BFLDL, CMP, CMPB (42_bit_and_compare.md): one definition per addressing form. -/

namespace Sys2Proof.Machine

/-- CMP Rwn, Rwm (R262). -/
def execCmpRwRw (n m : Nib) (s : State) : Host.Outcome State Fault Refusal :=
  complete 2 s (compareW (fromRw s m) (rwAddress · n))

/-- CMP Rwn, [Rwi] (R262). -/
def execCmpRwInd (n : Nib) (i : BitVec 2) (s : State) : Host.Outcome State Fault Refusal :=
  complete 2 s (compareW (readIndW s (pointerOf i)) (rwAddress · n))

/-- CMP Rwn, [Rwi+] (R262). -/
def execCmpRwIndInc (n : Nib) (i : BitVec 2) (s : State) : Host.Outcome State Fault Refusal :=
  complete 2 s (compareRwIndInc s n i)

/-- CMP Rwn, #data3 (R262). -/
def execCmpRwData3 (n : Nib) (data3 : BitVec 3) (s : State) : Host.Outcome State Fault Refusal :=
  complete 2 s (compareW (fromConst 16 s data3) (rwAddress · n))

/-- CMP reg, #data16 (R262). -/
def execCmpRegData16 (reg : Byte) (data16 : Word) (s : State) : Host.Outcome State Fault Refusal :=
  complete 4 s (compareW (fromConst 16 s data16) (regAddressW · reg))

/-- CMP reg, mem (R262). -/
def execCmpRegMem (reg : Byte) (mem : Word) (s : State) : Host.Outcome State Fault Refusal :=
  complete 4 s (compareW (fromMemW s mem) (regAddressW · reg))

/-- CMPB Rbn, Rbm (R263). -/
def execCmpbRbRb (n m : Nib) (s : State) : Host.Outcome State Fault Refusal :=
  complete 2 s (compareB (fromRb s m) (rbAddress · n))

/-- CMPB Rbn, [Rwi] (R263). -/
def execCmpbRbInd (n : Nib) (i : BitVec 2) (s : State) : Host.Outcome State Fault Refusal :=
  complete 2 s (compareB (readIndB s (pointerOf i)) (rbAddress · n))

/-- CMPB Rbn, [Rwi+] (R263). -/
def execCmpbRbIndInc (n : Nib) (i : BitVec 2) (s : State) : Host.Outcome State Fault Refusal :=
  complete 2 s (compareRbIndInc s n i)

/-- CMPB Rbn, #data3 (R263). -/
def execCmpbRbData3 (n : Nib) (data3 : BitVec 3) (s : State) : Host.Outcome State Fault Refusal :=
  complete 2 s (compareB (fromConst 8 s data3) (rbAddress · n))

/-- CMPB reg, #data8 (R263). -/
def execCmpbRegData8 (reg data8 : Byte) (s : State) : Host.Outcome State Fault Refusal :=
  complete 4 s (compareB (fromConst 8 s data8) (regAddressB · reg))

/-- CMPB reg, mem (R263). -/
def execCmpbRegMem (reg : Byte) (mem : Word) (s : State) : Host.Outcome State Fault Refusal :=
  complete 4 s (compareB (fromMemB s mem) (regAddressB · reg))

/-- BCLR bitaddrQ.q (R250). -/
def execBclr (bitoff : Byte) (pos : Nib) (s : State) : Host.Outcome State Fault Refusal :=
  complete 2 s (updateBit s bitoff pos (fun _ => false) bitFlags)

/-- BSET bitaddrQ.q (R251). -/
def execBset (bitoff : Byte) (pos : Nib) (s : State) : Host.Outcome State Fault Refusal :=
  complete 2 s (updateBit s bitoff pos (fun _ => true) bitFlags)

/-- BMOV bitaddrZ.z, bitaddrQ.q (R252). -/
def execBmov (dst : Byte) (dpos : Nib) (src : Byte) (spos : Nib) (s : State) : Host.Outcome State Fault Refusal :=
  complete 4 s (combineBits s dst dpos src spos (fun _ q => q) (fun _ q => bitFlags q))

/-- BMOVN bitaddrZ.z, bitaddrQ.q (R253). -/
def execBmovn (dst : Byte) (dpos : Nib) (src : Byte) (spos : Nib) (s : State) : Host.Outcome State Fault Refusal :=
  complete 4 s (combineBits s dst dpos src spos (fun _ q => !q) (fun _ q => bitFlags q))

/-- BAND bitaddrZ.z, bitaddrQ.q (R254). -/
def execBand (dst : Byte) (dpos : Nib) (src : Byte) (spos : Nib) (s : State) : Host.Outcome State Fault Refusal :=
  complete 4 s (combineBits s dst dpos src spos (fun d q => d && q) twoBitFlags)

/-- BOR bitaddrZ.z, bitaddrQ.q (R255). -/
def execBor (dst : Byte) (dpos : Nib) (src : Byte) (spos : Nib) (s : State) : Host.Outcome State Fault Refusal :=
  complete 4 s (combineBits s dst dpos src spos (fun d q => d || q) twoBitFlags)

/-- BXOR bitaddrZ.z, bitaddrQ.q (R256). -/
def execBxor (dst : Byte) (dpos : Nib) (src : Byte) (spos : Nib) (s : State) : Host.Outcome State Fault Refusal :=
  complete 4 s (combineBits s dst dpos src spos (fun d q => xor d q) twoBitFlags)

/-- BCMP bitaddrZ.z, bitaddrQ.q (R257). -/
def execBcmp (dst : Byte) (dpos : Nib) (src : Byte) (spos : Nib) (s : State) : Host.Outcome State Fault Refusal :=
  complete 4 s (compareBits s dst dpos src spos)

/-- BFLDH bitoffQ, #mask8, #data8 (R258). -/
def execBfldh (bitoff mask8 data8 : Byte) (s : State) : Host.Outcome State Fault Refusal :=
  complete 4 s (updateField s bitoff (fun w => fieldByte (highByte w) mask8 data8 ++ lowByte w))

/-- BFLDL bitoffQ, #mask8, #data8 (R259). -/
def execBfldl (bitoff mask8 data8 : Byte) (s : State) : Host.Outcome State Fault Refusal :=
  complete 4 s (updateField s bitoff (fun w => highByte w ++ fieldByte (lowByte w) mask8 data8))

end Sys2Proof.Machine
end

