-- ==== Sys2Proof/Machine/Jump.lean ====
section
/-! DEFINITION. The meanings of JMPA, JMPI, JMPR, JMPS, JB, JBC, JNB, JNBS, CALLA, CALLI, CALLR, CALLS, PCALL, TRAP (45_jump_call.md): one definition per addressing form. -/

namespace Sys2Proof.Machine

/-- JMPA cc, caddr (R343). -/
def execJmpa (cc : Nib) (caddr : Word) (s : State) : Host.Outcome State Fault Refusal :=
  .next (branch s 4 (condition cc s.flags) caddr)

/-- JMPI cc, [Rwn] (R344). The target is the GPR's content. -/
def execJmpi (cc n : Nib) (s : State) : Host.Outcome State Fault Refusal :=
  if condition cc s.flags then settle (s.ipNext 2) ((readRw s n).map s.goto) else .next (s.goto (s.ipNext 2))

/-- JMPR cc, rel (R345). -/
def execJmpr (cc : Nib) (rel : Byte) (s : State) : Host.Outcome State Fault Refusal :=
  .next (branch s 2 (condition cc s.flags) (relTarget (s.ipNext 2) rel))

/-- JMPS seg, caddr (R346). -/
def execJmps (seg : Byte) (caddr : Word) (s : State) : Host.Outcome State Fault Refusal :=
  .next ({ s with csp := segOf s.cfg.variant seg }.goto caddr)

/-- JB bitaddrQ.q, rel (R347). -/
def execJb (bitoff : Byte) (pos : Nib) (rel : Byte) (s : State) : Host.Outcome State Fault Refusal :=
  settle (s.ipNext 4) (jumpOnBit s true bitoff pos rel)

/-- JBC bitaddrQ.q, rel (R348). -/
def execJbc (bitoff : Byte) (pos : Nib) (rel : Byte) (s : State) : Host.Outcome State Fault Refusal :=
  settle (s.ipNext 4) (jumpOnBitAndChange s true bitoff pos rel)

/-- JNB bitaddrQ.q, rel (R349). -/
def execJnb (bitoff : Byte) (pos : Nib) (rel : Byte) (s : State) : Host.Outcome State Fault Refusal :=
  settle (s.ipNext 4) (jumpOnBit s false bitoff pos rel)

/-- JNBS bitaddrQ.q, rel (R350). -/
def execJnbs (bitoff : Byte) (pos : Nib) (rel : Byte) (s : State) : Host.Outcome State Fault Refusal :=
  settle (s.ipNext 4) (jumpOnBitAndChange s false bitoff pos rel)

/-- CALLA cc, caddr (R351). -/
def execCalla (cc : Nib) (caddr : Word) (s : State) : Host.Outcome State Fault Refusal :=
  if condition cc s.flags then settle (s.ipNext 4) (call s 4 caddr) else .next (s.goto (s.ipNext 4))

/-- CALLI cc, [Rwn] (R352). -/
def execCalli (cc n : Nib) (s : State) : Host.Outcome State Fault Refusal :=
  if condition cc s.flags then settle (s.ipNext 2) ((readRw s n).bind (call s 2)) else .next (s.goto (s.ipNext 2))

/-- CALLR rel (R353). -/
def execCallr (rel : Byte) (s : State) : Host.Outcome State Fault Refusal :=
  settle (s.ipNext 2) (call s 2 (relTarget (s.ipNext 2) rel))

/-- CALLS seg, caddr (R354). -/
def execCalls (seg : Byte) (caddr : Word) (s : State) : Host.Outcome State Fault Refusal :=
  settle (s.ipNext 4) (callSegment s seg caddr)

/-- PCALL reg, caddr (R355). -/
def execPcall (reg : Byte) (caddr : Word) (s : State) : Host.Outcome State Fault Refusal :=
  settle (s.ipNext 4) (pushAndCall s reg caddr)

/-- TRAP #trap7 (R356). -/
def execTrap (trap7 : BitVec 7) (s : State) : Host.Outcome State Fault Refusal :=
  settle (s.ipNext 2) (saveAndVector s (pswWord s.cfg s.psw) trap7 (s.ipNext 2))

end Sys2Proof.Machine
end

