-- ==== Sys2Proof/Machine/Logic.lean ====
section
/-! DEFINITION. The meanings of AND, OR, XOR and their byte versions (41_logical.md): one definition per addressing form. -/

namespace Sys2Proof.Machine

/-- XOR Rwn, Rwm (R244). -/
def execXorRwRw (n m : Nib) (s : State) : Host.Outcome State Fault Refusal :=
  complete 2 s (aluW .xor s.flags (fromRw s m) (rwAddress · n))

/-- XOR Rwn, [Rwi] (R244). -/
def execXorRwInd (n : Nib) (i : BitVec 2) (s : State) : Host.Outcome State Fault Refusal :=
  complete 2 s (aluW .xor s.flags (readIndW s (pointerOf i)) (rwAddress · n))

/-- XOR Rwn, [Rwi+] (R244). -/
def execXorRwIndInc (n : Nib) (i : BitVec 2) (s : State) : Host.Outcome State Fault Refusal :=
  complete 2 s (aluRwIndInc .xor s n i)

/-- XOR Rwn, #data3 (R244). -/
def execXorRwData3 (n : Nib) (data3 : BitVec 3) (s : State) : Host.Outcome State Fault Refusal :=
  complete 2 s (aluW .xor s.flags (fromConst 16 s data3) (rwAddress · n))

/-- XOR reg, #data16 (R244). -/
def execXorRegData16 (reg : Byte) (data16 : Word) (s : State) : Host.Outcome State Fault Refusal :=
  complete 4 s (aluW .xor s.flags (fromConst 16 s data16) (regAddressW · reg))

/-- XOR reg, mem (R244). -/
def execXorRegMem (reg : Byte) (mem : Word) (s : State) : Host.Outcome State Fault Refusal :=
  complete 4 s (aluW .xor s.flags (fromMemW s mem) (regAddressW · reg))

/-- XOR mem, reg (R244). -/
def execXorMemReg (mem : Word) (reg : Byte) (s : State) : Host.Outcome State Fault Refusal :=
  complete 4 s (aluW .xor s.flags (fromRegW s reg) (memAddress · mem))

/-- XORB Rbn, Rbm (R245). -/
def execXorbRbRb (n m : Nib) (s : State) : Host.Outcome State Fault Refusal :=
  complete 2 s (aluB .xor s.flags (fromRb s m) (rbAddress · n))

/-- XORB Rbn, [Rwi] (R245). -/
def execXorbRbInd (n : Nib) (i : BitVec 2) (s : State) : Host.Outcome State Fault Refusal :=
  complete 2 s (aluB .xor s.flags (readIndB s (pointerOf i)) (rbAddress · n))

/-- XORB Rbn, [Rwi+] (R245). -/
def execXorbRbIndInc (n : Nib) (i : BitVec 2) (s : State) : Host.Outcome State Fault Refusal :=
  complete 2 s (aluRbIndInc .xor s n i)

/-- XORB Rbn, #data3 (R245). -/
def execXorbRbData3 (n : Nib) (data3 : BitVec 3) (s : State) : Host.Outcome State Fault Refusal :=
  complete 2 s (aluB .xor s.flags (fromConst 8 s data3) (rbAddress · n))

/-- XORB reg, #data8 (R245). -/
def execXorbRegData8 (reg data8 : Byte) (s : State) : Host.Outcome State Fault Refusal :=
  complete 4 s (aluB .xor s.flags (fromConst 8 s data8) (regAddressB · reg))

/-- XORB reg, mem (R245). -/
def execXorbRegMem (reg : Byte) (mem : Word) (s : State) : Host.Outcome State Fault Refusal :=
  complete 4 s (aluB .xor s.flags (fromMemB s mem) (regAddressB · reg))

/-- XORB mem, reg (R245). -/
def execXorbMemReg (mem : Word) (reg : Byte) (s : State) : Host.Outcome State Fault Refusal :=
  complete 4 s (aluB .xor s.flags (fromRegB s reg) (memAddress · mem))

/-- AND Rwn, Rwm (R240). -/
def execAndRwRw (n m : Nib) (s : State) : Host.Outcome State Fault Refusal :=
  complete 2 s (aluW .and s.flags (fromRw s m) (rwAddress · n))

/-- AND Rwn, [Rwi] (R240). -/
def execAndRwInd (n : Nib) (i : BitVec 2) (s : State) : Host.Outcome State Fault Refusal :=
  complete 2 s (aluW .and s.flags (readIndW s (pointerOf i)) (rwAddress · n))

/-- AND Rwn, [Rwi+] (R240). -/
def execAndRwIndInc (n : Nib) (i : BitVec 2) (s : State) : Host.Outcome State Fault Refusal :=
  complete 2 s (aluRwIndInc .and s n i)

/-- AND Rwn, #data3 (R240). -/
def execAndRwData3 (n : Nib) (data3 : BitVec 3) (s : State) : Host.Outcome State Fault Refusal :=
  complete 2 s (aluW .and s.flags (fromConst 16 s data3) (rwAddress · n))

/-- AND reg, #data16 (R240). -/
def execAndRegData16 (reg : Byte) (data16 : Word) (s : State) : Host.Outcome State Fault Refusal :=
  complete 4 s (aluW .and s.flags (fromConst 16 s data16) (regAddressW · reg))

/-- AND reg, mem (R240). -/
def execAndRegMem (reg : Byte) (mem : Word) (s : State) : Host.Outcome State Fault Refusal :=
  complete 4 s (aluW .and s.flags (fromMemW s mem) (regAddressW · reg))

/-- AND mem, reg (R240). -/
def execAndMemReg (mem : Word) (reg : Byte) (s : State) : Host.Outcome State Fault Refusal :=
  complete 4 s (aluW .and s.flags (fromRegW s reg) (memAddress · mem))

/-- ANDB Rbn, Rbm (R241). -/
def execAndbRbRb (n m : Nib) (s : State) : Host.Outcome State Fault Refusal :=
  complete 2 s (aluB .and s.flags (fromRb s m) (rbAddress · n))

/-- ANDB Rbn, [Rwi] (R241). -/
def execAndbRbInd (n : Nib) (i : BitVec 2) (s : State) : Host.Outcome State Fault Refusal :=
  complete 2 s (aluB .and s.flags (readIndB s (pointerOf i)) (rbAddress · n))

/-- ANDB Rbn, [Rwi+] (R241). -/
def execAndbRbIndInc (n : Nib) (i : BitVec 2) (s : State) : Host.Outcome State Fault Refusal :=
  complete 2 s (aluRbIndInc .and s n i)

/-- ANDB Rbn, #data3 (R241). -/
def execAndbRbData3 (n : Nib) (data3 : BitVec 3) (s : State) : Host.Outcome State Fault Refusal :=
  complete 2 s (aluB .and s.flags (fromConst 8 s data3) (rbAddress · n))

/-- ANDB reg, #data8 (R241). -/
def execAndbRegData8 (reg data8 : Byte) (s : State) : Host.Outcome State Fault Refusal :=
  complete 4 s (aluB .and s.flags (fromConst 8 s data8) (regAddressB · reg))

/-- ANDB reg, mem (R241). -/
def execAndbRegMem (reg : Byte) (mem : Word) (s : State) : Host.Outcome State Fault Refusal :=
  complete 4 s (aluB .and s.flags (fromMemB s mem) (regAddressB · reg))

/-- ANDB mem, reg (R241). -/
def execAndbMemReg (mem : Word) (reg : Byte) (s : State) : Host.Outcome State Fault Refusal :=
  complete 4 s (aluB .and s.flags (fromRegB s reg) (memAddress · mem))

/-- OR Rwn, Rwm (R242). -/
def execOrRwRw (n m : Nib) (s : State) : Host.Outcome State Fault Refusal :=
  complete 2 s (aluW .or s.flags (fromRw s m) (rwAddress · n))

/-- OR Rwn, [Rwi] (R242). -/
def execOrRwInd (n : Nib) (i : BitVec 2) (s : State) : Host.Outcome State Fault Refusal :=
  complete 2 s (aluW .or s.flags (readIndW s (pointerOf i)) (rwAddress · n))

/-- OR Rwn, [Rwi+] (R242). -/
def execOrRwIndInc (n : Nib) (i : BitVec 2) (s : State) : Host.Outcome State Fault Refusal :=
  complete 2 s (aluRwIndInc .or s n i)

/-- OR Rwn, #data3 (R242). -/
def execOrRwData3 (n : Nib) (data3 : BitVec 3) (s : State) : Host.Outcome State Fault Refusal :=
  complete 2 s (aluW .or s.flags (fromConst 16 s data3) (rwAddress · n))

/-- OR reg, #data16 (R242). -/
def execOrRegData16 (reg : Byte) (data16 : Word) (s : State) : Host.Outcome State Fault Refusal :=
  complete 4 s (aluW .or s.flags (fromConst 16 s data16) (regAddressW · reg))

/-- OR reg, mem (R242). -/
def execOrRegMem (reg : Byte) (mem : Word) (s : State) : Host.Outcome State Fault Refusal :=
  complete 4 s (aluW .or s.flags (fromMemW s mem) (regAddressW · reg))

/-- OR mem, reg (R242). -/
def execOrMemReg (mem : Word) (reg : Byte) (s : State) : Host.Outcome State Fault Refusal :=
  complete 4 s (aluW .or s.flags (fromRegW s reg) (memAddress · mem))

/-- ORB Rbn, Rbm (R243). -/
def execOrbRbRb (n m : Nib) (s : State) : Host.Outcome State Fault Refusal :=
  complete 2 s (aluB .or s.flags (fromRb s m) (rbAddress · n))

/-- ORB Rbn, [Rwi] (R243). -/
def execOrbRbInd (n : Nib) (i : BitVec 2) (s : State) : Host.Outcome State Fault Refusal :=
  complete 2 s (aluB .or s.flags (readIndB s (pointerOf i)) (rbAddress · n))

/-- ORB Rbn, [Rwi+] (R243). -/
def execOrbRbIndInc (n : Nib) (i : BitVec 2) (s : State) : Host.Outcome State Fault Refusal :=
  complete 2 s (aluRbIndInc .or s n i)

/-- ORB Rbn, #data3 (R243). -/
def execOrbRbData3 (n : Nib) (data3 : BitVec 3) (s : State) : Host.Outcome State Fault Refusal :=
  complete 2 s (aluB .or s.flags (fromConst 8 s data3) (rbAddress · n))

/-- ORB reg, #data8 (R243). -/
def execOrbRegData8 (reg data8 : Byte) (s : State) : Host.Outcome State Fault Refusal :=
  complete 4 s (aluB .or s.flags (fromConst 8 s data8) (regAddressB · reg))

/-- ORB reg, mem (R243). -/
def execOrbRegMem (reg : Byte) (mem : Word) (s : State) : Host.Outcome State Fault Refusal :=
  complete 4 s (aluB .or s.flags (fromMemB s mem) (regAddressB · reg))

/-- ORB mem, reg (R243). -/
def execOrbMemReg (mem : Word) (reg : Byte) (s : State) : Host.Outcome State Fault Refusal :=
  complete 4 s (aluB .or s.flags (fromRegB s reg) (memAddress · mem))

end Sys2Proof.Machine
end

