-- ==== Sys2Proof/Machine/Loop.lean ====
section
/-! DEFINITION. The meanings of CMPD1, CMPD2, CMPI1, CMPI2, PRIOR, SHL, SHR, ROL, ROR, ASHR (43_loop_prior_shift.md): one definition per addressing form. -/

namespace Sys2Proof.Machine

/-- CMPD1 Rwn, #data4 (R270). -/
def execCmpd1RwData4 (n data4 : Nib) (s : State) : Host.Outcome State Fault Refusal :=
  complete 2 s (compareLoop (-1) (fromConst 16 s data4) n)

/-- CMPD1 Rwn, #data16 (R270). -/
def execCmpd1RwData16 (n : Nib) (data16 : Word) (s : State) : Host.Outcome State Fault Refusal :=
  complete 4 s (compareLoop (-1) (fromConst 16 s data16) n)

/-- CMPD1 Rwn, mem (R270). -/
def execCmpd1RwMem (n : Nib) (mem : Word) (s : State) : Host.Outcome State Fault Refusal :=
  complete 4 s (compareLoop (-1) (fromMemW s mem) n)

/-- CMPD2 Rwn, #data4 (R271). -/
def execCmpd2RwData4 (n data4 : Nib) (s : State) : Host.Outcome State Fault Refusal :=
  complete 2 s (compareLoop (-2) (fromConst 16 s data4) n)

/-- CMPD2 Rwn, #data16 (R271). -/
def execCmpd2RwData16 (n : Nib) (data16 : Word) (s : State) : Host.Outcome State Fault Refusal :=
  complete 4 s (compareLoop (-2) (fromConst 16 s data16) n)

/-- CMPD2 Rwn, mem (R271). -/
def execCmpd2RwMem (n : Nib) (mem : Word) (s : State) : Host.Outcome State Fault Refusal :=
  complete 4 s (compareLoop (-2) (fromMemW s mem) n)

/-- CMPI1 Rwn, #data4 (R272). -/
def execCmpi1RwData4 (n data4 : Nib) (s : State) : Host.Outcome State Fault Refusal :=
  complete 2 s (compareLoop 1 (fromConst 16 s data4) n)

/-- CMPI1 Rwn, #data16 (R272). -/
def execCmpi1RwData16 (n : Nib) (data16 : Word) (s : State) : Host.Outcome State Fault Refusal :=
  complete 4 s (compareLoop 1 (fromConst 16 s data16) n)

/-- CMPI1 Rwn, mem (R272). -/
def execCmpi1RwMem (n : Nib) (mem : Word) (s : State) : Host.Outcome State Fault Refusal :=
  complete 4 s (compareLoop 1 (fromMemW s mem) n)

/-- CMPI2 Rwn, #data4 (R273). -/
def execCmpi2RwData4 (n data4 : Nib) (s : State) : Host.Outcome State Fault Refusal :=
  complete 2 s (compareLoop 2 (fromConst 16 s data4) n)

/-- CMPI2 Rwn, #data16 (R273). -/
def execCmpi2RwData16 (n : Nib) (data16 : Word) (s : State) : Host.Outcome State Fault Refusal :=
  complete 4 s (compareLoop 2 (fromConst 16 s data16) n)

/-- CMPI2 Rwn, mem (R273). -/
def execCmpi2RwMem (n : Nib) (mem : Word) (s : State) : Host.Outcome State Fault Refusal :=
  complete 4 s (compareLoop 2 (fromMemW s mem) n)

/-- PRIOR Rwn, Rwm (R274). -/
def execPrior (n m : Nib) (s : State) : Host.Outcome State Fault Refusal :=
  complete 2 s (prioritize s n m)

/-- SHL Rwn, Rwm (R275). -/
def execShlRwRw (n m : Nib) (s : State) : Host.Outcome State Fault Refusal :=
  complete 2 s (shift .shl (fromRw s m) n)

/-- SHL Rwn, #data4 (R275). -/
def execShlRwData4 (n data4 : Nib) (s : State) : Host.Outcome State Fault Refusal :=
  complete 2 s (shift .shl (fromConst 4 s data4) n)

/-- SHR Rwn, Rwm (R276). -/
def execShrRwRw (n m : Nib) (s : State) : Host.Outcome State Fault Refusal :=
  complete 2 s (shift .shr (fromRw s m) n)

/-- SHR Rwn, #data4 (R276). -/
def execShrRwData4 (n data4 : Nib) (s : State) : Host.Outcome State Fault Refusal :=
  complete 2 s (shift .shr (fromConst 4 s data4) n)

/-- ROL Rwn, Rwm (R277). -/
def execRolRwRw (n m : Nib) (s : State) : Host.Outcome State Fault Refusal :=
  complete 2 s (shift .rol (fromRw s m) n)

/-- ROL Rwn, #data4 (R277). -/
def execRolRwData4 (n data4 : Nib) (s : State) : Host.Outcome State Fault Refusal :=
  complete 2 s (shift .rol (fromConst 4 s data4) n)

/-- ROR Rwn, Rwm (R278). -/
def execRorRwRw (n m : Nib) (s : State) : Host.Outcome State Fault Refusal :=
  complete 2 s (shift .ror (fromRw s m) n)

/-- ROR Rwn, #data4 (R278). -/
def execRorRwData4 (n data4 : Nib) (s : State) : Host.Outcome State Fault Refusal :=
  complete 2 s (shift .ror (fromConst 4 s data4) n)

/-- ASHR Rwn, Rwm (R279). -/
def execAshrRwRw (n m : Nib) (s : State) : Host.Outcome State Fault Refusal :=
  complete 2 s (shift .ashr (fromRw s m) n)

/-- ASHR Rwn, #data4 (R279). -/
def execAshrRwData4 (n data4 : Nib) (s : State) : Host.Outcome State Fault Refusal :=
  complete 2 s (shift .ashr (fromConst 4 s data4) n)

end Sys2Proof.Machine
end

