-- ==== Sys2Proof/Machine/Move.lean ====
section
/-! DEFINITION. The meanings of MOV, MOVB, MOVBS, MOVBZ (44_data_movement.md): one definition per addressing form. -/

namespace Sys2Proof.Machine

/-- MOV Rwn, Rwm (R290). -/
def execMovRwRw (n m : Nib) (s : State) : Host.Outcome State Fault Refusal :=
  complete 2 s (moveW (fromRw s m) (toW (rwAddress · n)))

/-- MOV Rwn, #data4 (R291). -/
def execMovRwData4 (n data4 : Nib) (s : State) : Host.Outcome State Fault Refusal :=
  complete 2 s (moveW (fromConst 16 s data4) (toW (rwAddress · n)))

/-- MOV reg, #data16 (R292). -/
def execMovRegData16 (reg : Byte) (data16 : Word) (s : State) : Host.Outcome State Fault Refusal :=
  complete 4 s (moveW (fromConst 16 s data16) (toW (regAddressW · reg)))

/-- MOV Rwn, [Rwm] (R293). -/
def execMovRwInd (n m : Nib) (s : State) : Host.Outcome State Fault Refusal :=
  complete 2 s (moveW (readIndW s m) (toW (rwAddress · n)))

/-- MOV Rwn, [Rwm+] (R294). -/
def execMovRwIndInc (n m : Nib) (s : State) : Host.Outcome State Fault Refusal :=
  complete 2 s (moveRwIndInc s n m)

/-- MOV [Rwm], Rwn (R295). -/
def execMovIndRw (m n : Nib) (s : State) : Host.Outcome State Fault Refusal :=
  complete 2 s (moveW (fromRw s n) (finishIndW · m))

/-- MOV [-Rwm], Rwn (R296). -/
def execMovPreDecRw (m n : Nib) (s : State) : Host.Outcome State Fault Refusal :=
  complete 2 s (movePreDecRw s m n)

/-- MOV [Rwn], [Rwm] (R297). -/
def execMovIndInd (n m : Nib) (s : State) : Host.Outcome State Fault Refusal :=
  complete 2 s (moveW (readIndW s m) (finishIndW · n))

/-- MOV [Rwn+], [Rwm] (R298). -/
def execMovIndIncInd (n m : Nib) (s : State) : Host.Outcome State Fault Refusal :=
  complete 2 s (moveIndIncIndW s n m)

/-- MOV [Rwn], [Rwm+] (R299). -/
def execMovIndIndInc (n m : Nib) (s : State) : Host.Outcome State Fault Refusal :=
  complete 2 s (moveIndIndIncW s n m)

/-- MOV Rwn, [Rwm+#data16] (R300). -/
def execMovRwDisp (n m : Nib) (disp : Word) (s : State) : Host.Outcome State Fault Refusal :=
  complete 4 s (moveW (readDispW s m disp) (toW (rwAddress · n)))

/-- MOV [Rwm+#data16], Rwn (R301). -/
def execMovDispRw (m : Nib) (disp : Word) (n : Nib) (s : State) : Host.Outcome State Fault Refusal :=
  complete 4 s (moveW (fromRw s n) (finishDispW · m disp))

/-- MOV [Rwn], mem (R302). -/
def execMovIndMem (n : Nib) (mem : Word) (s : State) : Host.Outcome State Fault Refusal :=
  complete 4 s (moveW (fromMemW s mem) (finishIndW · n))

/-- MOV mem, [Rwn] (R303). -/
def execMovMemInd (mem : Word) (n : Nib) (s : State) : Host.Outcome State Fault Refusal :=
  complete 4 s (moveW (readIndW s n) (toW (memAddress · mem)))

/-- MOV reg, mem (R304). -/
def execMovRegMem (reg : Byte) (mem : Word) (s : State) : Host.Outcome State Fault Refusal :=
  complete 4 s (moveW (fromMemW s mem) (toW (regAddressW · reg)))

/-- MOV mem, reg (R305). -/
def execMovMemReg (mem : Word) (reg : Byte) (s : State) : Host.Outcome State Fault Refusal :=
  complete 4 s (moveW (fromRegW s reg) (toW (memAddress · mem)))

/-- MOVB Rbn, Rbm (R310). -/
def execMovbRbRb (n m : Nib) (s : State) : Host.Outcome State Fault Refusal :=
  complete 2 s (moveB (fromRb s m) (toB (rbAddress · n)))

/-- MOVB Rbn, #data4 (R311). -/
def execMovbRbData4 (n data4 : Nib) (s : State) : Host.Outcome State Fault Refusal :=
  complete 2 s (moveB (fromConst 8 s data4) (toB (rbAddress · n)))

/-- MOVB reg, #data8 (R312). -/
def execMovbRegData8 (reg data8 : Byte) (s : State) : Host.Outcome State Fault Refusal :=
  complete 4 s (moveB (fromConst 8 s data8) (toB (regAddressB · reg)))

/-- MOVB Rbn, [Rwm] (R313). -/
def execMovbRbInd (n m : Nib) (s : State) : Host.Outcome State Fault Refusal :=
  complete 2 s (moveB (readIndB s m) (toB (rbAddress · n)))

/-- MOVB Rbn, [Rwm+] (R314). -/
def execMovbRbIndInc (n m : Nib) (s : State) : Host.Outcome State Fault Refusal :=
  complete 2 s (moveRbIndInc s n m)

/-- MOVB [Rwm], Rbn (R315). -/
def execMovbIndRb (m n : Nib) (s : State) : Host.Outcome State Fault Refusal :=
  complete 2 s (moveB (fromRb s n) (finishIndB · m))

/-- MOVB [-Rwm], Rbn (R316). -/
def execMovbPreDecRb (m n : Nib) (s : State) : Host.Outcome State Fault Refusal :=
  complete 2 s (movePreDecRb s m n)

/-- MOVB [Rwn], [Rwm] (R317). -/
def execMovbIndInd (n m : Nib) (s : State) : Host.Outcome State Fault Refusal :=
  complete 2 s (moveB (readIndB s m) (finishIndB · n))

/-- MOVB [Rwn+], [Rwm] (R318). -/
def execMovbIndIncInd (n m : Nib) (s : State) : Host.Outcome State Fault Refusal :=
  complete 2 s (moveIndIncIndB s n m)

/-- MOVB [Rwn], [Rwm+] (R319). -/
def execMovbIndIndInc (n m : Nib) (s : State) : Host.Outcome State Fault Refusal :=
  complete 2 s (moveIndIndIncB s n m)

/-- MOVB Rbn, [Rwm+#data16] (R320). -/
def execMovbRbDisp (n m : Nib) (disp : Word) (s : State) : Host.Outcome State Fault Refusal :=
  complete 4 s (moveB (readDispB s m disp) (toB (rbAddress · n)))

/-- MOVB [Rwm+#data16], Rbn (R321). -/
def execMovbDispRb (m : Nib) (disp : Word) (n : Nib) (s : State) : Host.Outcome State Fault Refusal :=
  complete 4 s (moveB (fromRb s n) (finishDispB · m disp))

/-- MOVB [Rwn], mem (R322). -/
def execMovbIndMem (n : Nib) (mem : Word) (s : State) : Host.Outcome State Fault Refusal :=
  complete 4 s (moveB (fromMemB s mem) (finishIndB · n))

/-- MOVB mem, [Rwn] (R323). -/
def execMovbMemInd (mem : Word) (n : Nib) (s : State) : Host.Outcome State Fault Refusal :=
  complete 4 s (moveB (readIndB s n) (toB (memAddress · mem)))

/-- MOVB reg, mem (R324). -/
def execMovbRegMem (reg : Byte) (mem : Word) (s : State) : Host.Outcome State Fault Refusal :=
  complete 4 s (moveB (fromMemB s mem) (toB (regAddressB · reg)))

/-- MOVB mem, reg (R325). -/
def execMovbMemReg (mem : Word) (reg : Byte) (s : State) : Host.Outcome State Fault Refusal :=
  complete 4 s (moveB (fromRegB s reg) (toB (memAddress · mem)))

/-- MOVBS Rwn, Rbm (R330). -/
def execMovbsRwRb (n m : Nib) (s : State) : Host.Outcome State Fault Refusal :=
  complete 2 s (moveExtended (·.signExtend 16) signExtendFlags (fromRb s m) (rwAddress · n))

/-- MOVBS reg, mem (R331). -/
def execMovbsRegMem (reg : Byte) (mem : Word) (s : State) : Host.Outcome State Fault Refusal :=
  complete 4 s (moveExtended (·.signExtend 16) signExtendFlags (fromMemB s mem) (regAddressW · reg))

/-- MOVBS mem, reg (R332). -/
def execMovbsMemReg (mem : Word) (reg : Byte) (s : State) : Host.Outcome State Fault Refusal :=
  complete 4 s (moveExtended (·.signExtend 16) signExtendFlags (fromRegB s reg) (memAddress · mem))

/-- MOVBZ Rwn, Rbm (R333). -/
def execMovbzRwRb (n m : Nib) (s : State) : Host.Outcome State Fault Refusal :=
  complete 2 s (moveExtended (·.setWidth 16) zeroExtendFlags (fromRb s m) (rwAddress · n))

/-- MOVBZ reg, mem (R334). -/
def execMovbzRegMem (reg : Byte) (mem : Word) (s : State) : Host.Outcome State Fault Refusal :=
  complete 4 s (moveExtended (·.setWidth 16) zeroExtendFlags (fromMemB s mem) (regAddressW · reg))

/-- MOVBZ mem, reg (R335). -/
def execMovbzMemReg (mem : Word) (reg : Byte) (s : State) : Host.Outcome State Fault Refusal :=
  complete 4 s (moveExtended (·.setWidth 16) zeroExtendFlags (fromRegB s reg) (memAddress · mem))

end Sys2Proof.Machine
end

