-- ==== Sys2Proof/Machine/Stack.lean ====
section
/-! DEFINITION. The meanings of POP, PUSH, SCXT, RET, RETS, RETP, RETI (46_stack_return.md): one definition per addressing form. -/

namespace Sys2Proof.Machine

/-- POP reg (R370). -/
def execPop (reg : Byte) (s : State) : Host.Outcome State Fault Refusal :=
  complete 2 s (popInto s reg)

/-- PUSH reg (R371). -/
def execPush (reg : Byte) (s : State) : Host.Outcome State Fault Refusal :=
  complete 2 s (pushFrom s reg)

/-- SCXT reg, #data16 (R372). -/
def execScxtRegData16 (reg : Byte) (data16 : Word) (s : State) : Host.Outcome State Fault Refusal :=
  complete 4 s (switchContext s reg (fromConst 16 s data16))

/-- SCXT reg, mem (R373). -/
def execScxtRegMem (reg : Byte) (mem : Word) (s : State) : Host.Outcome State Fault Refusal :=
  complete 4 s (switchContext s reg (fromMemW s mem))

/-- RET (R374). -/
def execRet (s : State) : Host.Outcome State Fault Refusal :=
  settle (s.ipNext 2) (returnNear s)

/-- RETS (R375). -/
def execRets (s : State) : Host.Outcome State Fault Refusal :=
  settle (s.ipNext 2) (returnSegment s)

/-- RETP reg (R376). -/
def execRetp (reg : Byte) (s : State) : Host.Outcome State Fault Refusal :=
  settle (s.ipNext 2) (returnAndPop s reg)

/-- RETI (R377). -/
def execReti (s : State) : Host.Outcome State Fault Refusal :=
  settle (s.ipNext 2) (returnFromInterrupt s)

end Sys2Proof.Machine
end

