-- ==== Sys2Proof/Machine/System.lean ====
section
/-! DEFINITION. The meanings of the protected instructions, ATOMIC and EXTended, NOP (47_system_control.md): one definition per addressing form. -/

namespace Sys2Proof.Machine

/-- SRST (R390). Every other effect of a reset is `State.doReset`. -/
def execSrst (s : State) : Host.Outcome State Fault Refusal :=
  .next s.doReset

/-- IDLE (R391). -/
def execIdle (s : State) : Host.Outcome State Fault Refusal :=
  .next ({ s with runState := .idle }.goto (s.ipNext 4))

/-- PWRDN (R393). Without a low NMI pin it has no effect. -/
def execPwrdn (s : State) : Host.Outcome State Fault Refusal :=
  .next ((if s.nmiLow then { s with runState := .powerDown } else s).goto (s.ipNext 4))

/-- SRVWDT (R394). -/
def execSrvwdt (s : State) : Host.Outcome State Fault Refusal :=
  .next ({ s with wdt := s.cfg.wdtPreset ++ 0x00#8, wdtLocked := true }.goto (s.ipNext 4))

/-- DISWDT (R395). After SRVWDT or EINIT it has no effect. -/
def execDiswdt (s : State) : Host.Outcome State Fault Refusal :=
  .next ((if s.wdtLocked then s else { s with wdtEnabled := false }).goto (s.ipNext 4))

/-- EINIT (R396). -/
def execEinit (s : State) : Host.Outcome State Fault Refusal :=
  .next ({ s with rstoutLow := false, wdtLocked := true }.goto (s.ipNext 4))

/-- ATOMIC #irang2 (R400). -/
def execAtomic (irang2 : BitVec 2) (s : State) : Host.Outcome State Fault Refusal :=
  complete 2 s (.ok (startSequence s irang2 .standard .none))

/-- EXTR #irang2 (R401). -/
def execExtr (irang2 : BitVec 2) (s : State) : Host.Outcome State Fault Refusal :=
  complete 2 s (.ok (startSequence s irang2 .extended .none))

/-- EXTP Rwm, #irang2 (R402). -/
def execExtpRw (m : Nib) (irang2 : BitVec 2) (s : State) : Host.Outcome State Fault Refusal :=
  complete 2 s (startPage s m irang2 .standard)

/-- EXTP #pag10, #irang2 (R403). -/
def execExtpPag (pag10 : BitVec 10) (irang2 : BitVec 2) (s : State) : Host.Outcome State Fault Refusal :=
  complete 4 s (.ok (startSequence s irang2 .standard (.page pag10)))

/-- EXTPR Rwm, #irang2 (R404). -/
def execExtprRw (m : Nib) (irang2 : BitVec 2) (s : State) : Host.Outcome State Fault Refusal :=
  complete 2 s (startPage s m irang2 .extended)

/-- EXTPR #pag10, #irang2 (R405). -/
def execExtprPag (pag10 : BitVec 10) (irang2 : BitVec 2) (s : State) : Host.Outcome State Fault Refusal :=
  complete 4 s (.ok (startSequence s irang2 .extended (.page pag10)))

/-- EXTS Rwm, #irang2 (R406). -/
def execExtsRw (m : Nib) (irang2 : BitVec 2) (s : State) : Host.Outcome State Fault Refusal :=
  complete 2 s (startSegment s m irang2 .standard)

/-- EXTS #seg8, #irang2 (R407). -/
def execExtsSeg (seg8 : Byte) (irang2 : BitVec 2) (s : State) : Host.Outcome State Fault Refusal :=
  complete 4 s (.ok (startSequence s irang2 .standard (.segment seg8)))

/-- EXTSR Rwm, #irang2 (R408). -/
def execExtsrRw (m : Nib) (irang2 : BitVec 2) (s : State) : Host.Outcome State Fault Refusal :=
  complete 2 s (startSegment s m irang2 .extended)

/-- EXTSR #seg8, #irang2 (R409). -/
def execExtsrSeg (seg8 : Byte) (irang2 : BitVec 2) (s : State) : Host.Outcome State Fault Refusal :=
  complete 4 s (.ok (startSequence s irang2 .extended (.segment seg8)))

/-- NOP (R410). -/
def execNop (s : State) : Host.Outcome State Fault Refusal :=
  complete 2 s (.ok s)

end Sys2Proof.Machine
end

