-- ==== Sys2Proof/Machine/Dispatch.lean ====
section
/-! DEFINITION. The meaning of every instruction: one arm per constructor of Instr, each one call of its meaning. -/

namespace Sys2Proof.Machine

def exec (i : Instr) (s : State) : Host.Outcome State Fault Refusal :=
  match i with
  | .addRwRw n m => Sys2Proof.Machine.execAddRwRw n m s
  | .addRwInd n p => Sys2Proof.Machine.execAddRwInd n p s
  | .addRwIndInc n p => Sys2Proof.Machine.execAddRwIndInc n p s
  | .addRwData3 n data3 => Sys2Proof.Machine.execAddRwData3 n data3 s
  | .addRegData16 reg data16 => Sys2Proof.Machine.execAddRegData16 reg data16 s
  | .addRegMem reg mem => Sys2Proof.Machine.execAddRegMem reg mem s
  | .addMemReg mem reg => Sys2Proof.Machine.execAddMemReg mem reg s
  | .addbRbRb n m => Sys2Proof.Machine.execAddbRbRb n m s
  | .addbRbInd n p => Sys2Proof.Machine.execAddbRbInd n p s
  | .addbRbIndInc n p => Sys2Proof.Machine.execAddbRbIndInc n p s
  | .addbRbData3 n data3 => Sys2Proof.Machine.execAddbRbData3 n data3 s
  | .addbRegData8 reg data8 => Sys2Proof.Machine.execAddbRegData8 reg data8 s
  | .addbRegMem reg mem => Sys2Proof.Machine.execAddbRegMem reg mem s
  | .addbMemReg mem reg => Sys2Proof.Machine.execAddbMemReg mem reg s
  | .addcRwRw n m => Sys2Proof.Machine.execAddcRwRw n m s
  | .addcRwInd n p => Sys2Proof.Machine.execAddcRwInd n p s
  | .addcRwIndInc n p => Sys2Proof.Machine.execAddcRwIndInc n p s
  | .addcRwData3 n data3 => Sys2Proof.Machine.execAddcRwData3 n data3 s
  | .addcRegData16 reg data16 => Sys2Proof.Machine.execAddcRegData16 reg data16 s
  | .addcRegMem reg mem => Sys2Proof.Machine.execAddcRegMem reg mem s
  | .addcMemReg mem reg => Sys2Proof.Machine.execAddcMemReg mem reg s
  | .addcbRbRb n m => Sys2Proof.Machine.execAddcbRbRb n m s
  | .addcbRbInd n p => Sys2Proof.Machine.execAddcbRbInd n p s
  | .addcbRbIndInc n p => Sys2Proof.Machine.execAddcbRbIndInc n p s
  | .addcbRbData3 n data3 => Sys2Proof.Machine.execAddcbRbData3 n data3 s
  | .addcbRegData8 reg data8 => Sys2Proof.Machine.execAddcbRegData8 reg data8 s
  | .addcbRegMem reg mem => Sys2Proof.Machine.execAddcbRegMem reg mem s
  | .addcbMemReg mem reg => Sys2Proof.Machine.execAddcbMemReg mem reg s
  | .subRwRw n m => Sys2Proof.Machine.execSubRwRw n m s
  | .subRwInd n p => Sys2Proof.Machine.execSubRwInd n p s
  | .subRwIndInc n p => Sys2Proof.Machine.execSubRwIndInc n p s
  | .subRwData3 n data3 => Sys2Proof.Machine.execSubRwData3 n data3 s
  | .subRegData16 reg data16 => Sys2Proof.Machine.execSubRegData16 reg data16 s
  | .subRegMem reg mem => Sys2Proof.Machine.execSubRegMem reg mem s
  | .subMemReg mem reg => Sys2Proof.Machine.execSubMemReg mem reg s
  | .subbRbRb n m => Sys2Proof.Machine.execSubbRbRb n m s
  | .subbRbInd n p => Sys2Proof.Machine.execSubbRbInd n p s
  | .subbRbIndInc n p => Sys2Proof.Machine.execSubbRbIndInc n p s
  | .subbRbData3 n data3 => Sys2Proof.Machine.execSubbRbData3 n data3 s
  | .subbRegData8 reg data8 => Sys2Proof.Machine.execSubbRegData8 reg data8 s
  | .subbRegMem reg mem => Sys2Proof.Machine.execSubbRegMem reg mem s
  | .subbMemReg mem reg => Sys2Proof.Machine.execSubbMemReg mem reg s
  | .subcRwRw n m => Sys2Proof.Machine.execSubcRwRw n m s
  | .subcRwInd n p => Sys2Proof.Machine.execSubcRwInd n p s
  | .subcRwIndInc n p => Sys2Proof.Machine.execSubcRwIndInc n p s
  | .subcRwData3 n data3 => Sys2Proof.Machine.execSubcRwData3 n data3 s
  | .subcRegData16 reg data16 => Sys2Proof.Machine.execSubcRegData16 reg data16 s
  | .subcRegMem reg mem => Sys2Proof.Machine.execSubcRegMem reg mem s
  | .subcMemReg mem reg => Sys2Proof.Machine.execSubcMemReg mem reg s
  | .subcbRbRb n m => Sys2Proof.Machine.execSubcbRbRb n m s
  | .subcbRbInd n p => Sys2Proof.Machine.execSubcbRbInd n p s
  | .subcbRbIndInc n p => Sys2Proof.Machine.execSubcbRbIndInc n p s
  | .subcbRbData3 n data3 => Sys2Proof.Machine.execSubcbRbData3 n data3 s
  | .subcbRegData8 reg data8 => Sys2Proof.Machine.execSubcbRegData8 reg data8 s
  | .subcbRegMem reg mem => Sys2Proof.Machine.execSubcbRegMem reg mem s
  | .subcbMemReg mem reg => Sys2Proof.Machine.execSubcbMemReg mem reg s
  | .cmpRwRw n m => Sys2Proof.Machine.execCmpRwRw n m s
  | .cmpRwInd n p => Sys2Proof.Machine.execCmpRwInd n p s
  | .cmpRwIndInc n p => Sys2Proof.Machine.execCmpRwIndInc n p s
  | .cmpRwData3 n data3 => Sys2Proof.Machine.execCmpRwData3 n data3 s
  | .cmpRegData16 reg data16 => Sys2Proof.Machine.execCmpRegData16 reg data16 s
  | .cmpRegMem reg mem => Sys2Proof.Machine.execCmpRegMem reg mem s
  | .cmpbRbRb n m => Sys2Proof.Machine.execCmpbRbRb n m s
  | .cmpbRbInd n p => Sys2Proof.Machine.execCmpbRbInd n p s
  | .cmpbRbIndInc n p => Sys2Proof.Machine.execCmpbRbIndInc n p s
  | .cmpbRbData3 n data3 => Sys2Proof.Machine.execCmpbRbData3 n data3 s
  | .cmpbRegData8 reg data8 => Sys2Proof.Machine.execCmpbRegData8 reg data8 s
  | .cmpbRegMem reg mem => Sys2Proof.Machine.execCmpbRegMem reg mem s
  | .xorRwRw n m => Sys2Proof.Machine.execXorRwRw n m s
  | .xorRwInd n p => Sys2Proof.Machine.execXorRwInd n p s
  | .xorRwIndInc n p => Sys2Proof.Machine.execXorRwIndInc n p s
  | .xorRwData3 n data3 => Sys2Proof.Machine.execXorRwData3 n data3 s
  | .xorRegData16 reg data16 => Sys2Proof.Machine.execXorRegData16 reg data16 s
  | .xorRegMem reg mem => Sys2Proof.Machine.execXorRegMem reg mem s
  | .xorMemReg mem reg => Sys2Proof.Machine.execXorMemReg mem reg s
  | .xorbRbRb n m => Sys2Proof.Machine.execXorbRbRb n m s
  | .xorbRbInd n p => Sys2Proof.Machine.execXorbRbInd n p s
  | .xorbRbIndInc n p => Sys2Proof.Machine.execXorbRbIndInc n p s
  | .xorbRbData3 n data3 => Sys2Proof.Machine.execXorbRbData3 n data3 s
  | .xorbRegData8 reg data8 => Sys2Proof.Machine.execXorbRegData8 reg data8 s
  | .xorbRegMem reg mem => Sys2Proof.Machine.execXorbRegMem reg mem s
  | .xorbMemReg mem reg => Sys2Proof.Machine.execXorbMemReg mem reg s
  | .andRwRw n m => Sys2Proof.Machine.execAndRwRw n m s
  | .andRwInd n p => Sys2Proof.Machine.execAndRwInd n p s
  | .andRwIndInc n p => Sys2Proof.Machine.execAndRwIndInc n p s
  | .andRwData3 n data3 => Sys2Proof.Machine.execAndRwData3 n data3 s
  | .andRegData16 reg data16 => Sys2Proof.Machine.execAndRegData16 reg data16 s
  | .andRegMem reg mem => Sys2Proof.Machine.execAndRegMem reg mem s
  | .andMemReg mem reg => Sys2Proof.Machine.execAndMemReg mem reg s
  | .andbRbRb n m => Sys2Proof.Machine.execAndbRbRb n m s
  | .andbRbInd n p => Sys2Proof.Machine.execAndbRbInd n p s
  | .andbRbIndInc n p => Sys2Proof.Machine.execAndbRbIndInc n p s
  | .andbRbData3 n data3 => Sys2Proof.Machine.execAndbRbData3 n data3 s
  | .andbRegData8 reg data8 => Sys2Proof.Machine.execAndbRegData8 reg data8 s
  | .andbRegMem reg mem => Sys2Proof.Machine.execAndbRegMem reg mem s
  | .andbMemReg mem reg => Sys2Proof.Machine.execAndbMemReg mem reg s
  | .orRwRw n m => Sys2Proof.Machine.execOrRwRw n m s
  | .orRwInd n p => Sys2Proof.Machine.execOrRwInd n p s
  | .orRwIndInc n p => Sys2Proof.Machine.execOrRwIndInc n p s
  | .orRwData3 n data3 => Sys2Proof.Machine.execOrRwData3 n data3 s
  | .orRegData16 reg data16 => Sys2Proof.Machine.execOrRegData16 reg data16 s
  | .orRegMem reg mem => Sys2Proof.Machine.execOrRegMem reg mem s
  | .orMemReg mem reg => Sys2Proof.Machine.execOrMemReg mem reg s
  | .orbRbRb n m => Sys2Proof.Machine.execOrbRbRb n m s
  | .orbRbInd n p => Sys2Proof.Machine.execOrbRbInd n p s
  | .orbRbIndInc n p => Sys2Proof.Machine.execOrbRbIndInc n p s
  | .orbRbData3 n data3 => Sys2Proof.Machine.execOrbRbData3 n data3 s
  | .orbRegData8 reg data8 => Sys2Proof.Machine.execOrbRegData8 reg data8 s
  | .orbRegMem reg mem => Sys2Proof.Machine.execOrbRegMem reg mem s
  | .orbMemReg mem reg => Sys2Proof.Machine.execOrbMemReg mem reg s
  | .mul n m => Sys2Proof.Machine.execMul n m s
  | .mulu n m => Sys2Proof.Machine.execMulu n m s
  | .div n => Sys2Proof.Machine.execDiv n s
  | .divl n => Sys2Proof.Machine.execDivl n s
  | .divlu n => Sys2Proof.Machine.execDivlu n s
  | .divu n => Sys2Proof.Machine.execDivu n s
  | .cpl n => Sys2Proof.Machine.execCpl n s
  | .cplb n => Sys2Proof.Machine.execCplb n s
  | .neg n => Sys2Proof.Machine.execNeg n s
  | .negb n => Sys2Proof.Machine.execNegb n s
  | .bclr bitoff pos => Sys2Proof.Machine.execBclr bitoff pos s
  | .bset bitoff pos => Sys2Proof.Machine.execBset bitoff pos s
  | .bmov dst dpos src spos => Sys2Proof.Machine.execBmov dst dpos src spos s
  | .bmovn dst dpos src spos => Sys2Proof.Machine.execBmovn dst dpos src spos s
  | .band dst dpos src spos => Sys2Proof.Machine.execBand dst dpos src spos s
  | .bor dst dpos src spos => Sys2Proof.Machine.execBor dst dpos src spos s
  | .bxor dst dpos src spos => Sys2Proof.Machine.execBxor dst dpos src spos s
  | .bcmp dst dpos src spos => Sys2Proof.Machine.execBcmp dst dpos src spos s
  | .bfldh bitoff mask8 data8 => Sys2Proof.Machine.execBfldh bitoff mask8 data8 s
  | .bfldl bitoff mask8 data8 => Sys2Proof.Machine.execBfldl bitoff mask8 data8 s
  | .cmpd1RwData4 n data4 => Sys2Proof.Machine.execCmpd1RwData4 n data4 s
  | .cmpd1RwData16 n data16 => Sys2Proof.Machine.execCmpd1RwData16 n data16 s
  | .cmpd1RwMem n mem => Sys2Proof.Machine.execCmpd1RwMem n mem s
  | .cmpd2RwData4 n data4 => Sys2Proof.Machine.execCmpd2RwData4 n data4 s
  | .cmpd2RwData16 n data16 => Sys2Proof.Machine.execCmpd2RwData16 n data16 s
  | .cmpd2RwMem n mem => Sys2Proof.Machine.execCmpd2RwMem n mem s
  | .cmpi1RwData4 n data4 => Sys2Proof.Machine.execCmpi1RwData4 n data4 s
  | .cmpi1RwData16 n data16 => Sys2Proof.Machine.execCmpi1RwData16 n data16 s
  | .cmpi1RwMem n mem => Sys2Proof.Machine.execCmpi1RwMem n mem s
  | .cmpi2RwData4 n data4 => Sys2Proof.Machine.execCmpi2RwData4 n data4 s
  | .cmpi2RwData16 n data16 => Sys2Proof.Machine.execCmpi2RwData16 n data16 s
  | .cmpi2RwMem n mem => Sys2Proof.Machine.execCmpi2RwMem n mem s
  | .prior n m => Sys2Proof.Machine.execPrior n m s
  | .shlRwRw n m => Sys2Proof.Machine.execShlRwRw n m s
  | .shlRwData4 n data4 => Sys2Proof.Machine.execShlRwData4 n data4 s
  | .shrRwRw n m => Sys2Proof.Machine.execShrRwRw n m s
  | .shrRwData4 n data4 => Sys2Proof.Machine.execShrRwData4 n data4 s
  | .rolRwRw n m => Sys2Proof.Machine.execRolRwRw n m s
  | .rolRwData4 n data4 => Sys2Proof.Machine.execRolRwData4 n data4 s
  | .rorRwRw n m => Sys2Proof.Machine.execRorRwRw n m s
  | .rorRwData4 n data4 => Sys2Proof.Machine.execRorRwData4 n data4 s
  | .ashrRwRw n m => Sys2Proof.Machine.execAshrRwRw n m s
  | .ashrRwData4 n data4 => Sys2Proof.Machine.execAshrRwData4 n data4 s
  | .movRwRw n m => Sys2Proof.Machine.execMovRwRw n m s
  | .movRwData4 n data4 => Sys2Proof.Machine.execMovRwData4 n data4 s
  | .movRegData16 reg data16 => Sys2Proof.Machine.execMovRegData16 reg data16 s
  | .movRwInd n m => Sys2Proof.Machine.execMovRwInd n m s
  | .movRwIndInc n m => Sys2Proof.Machine.execMovRwIndInc n m s
  | .movIndRw m n => Sys2Proof.Machine.execMovIndRw m n s
  | .movPreDecRw m n => Sys2Proof.Machine.execMovPreDecRw m n s
  | .movIndInd n m => Sys2Proof.Machine.execMovIndInd n m s
  | .movIndIncInd n m => Sys2Proof.Machine.execMovIndIncInd n m s
  | .movIndIndInc n m => Sys2Proof.Machine.execMovIndIndInc n m s
  | .movRwDisp n m disp => Sys2Proof.Machine.execMovRwDisp n m disp s
  | .movDispRw m disp n => Sys2Proof.Machine.execMovDispRw m disp n s
  | .movIndMem n mem => Sys2Proof.Machine.execMovIndMem n mem s
  | .movMemInd mem n => Sys2Proof.Machine.execMovMemInd mem n s
  | .movRegMem reg mem => Sys2Proof.Machine.execMovRegMem reg mem s
  | .movMemReg mem reg => Sys2Proof.Machine.execMovMemReg mem reg s
  | .movbRbRb n m => Sys2Proof.Machine.execMovbRbRb n m s
  | .movbRbData4 n data4 => Sys2Proof.Machine.execMovbRbData4 n data4 s
  | .movbRegData8 reg data8 => Sys2Proof.Machine.execMovbRegData8 reg data8 s
  | .movbRbInd n m => Sys2Proof.Machine.execMovbRbInd n m s
  | .movbRbIndInc n m => Sys2Proof.Machine.execMovbRbIndInc n m s
  | .movbIndRb m n => Sys2Proof.Machine.execMovbIndRb m n s
  | .movbPreDecRb m n => Sys2Proof.Machine.execMovbPreDecRb m n s
  | .movbIndInd n m => Sys2Proof.Machine.execMovbIndInd n m s
  | .movbIndIncInd n m => Sys2Proof.Machine.execMovbIndIncInd n m s
  | .movbIndIndInc n m => Sys2Proof.Machine.execMovbIndIndInc n m s
  | .movbRbDisp n m disp => Sys2Proof.Machine.execMovbRbDisp n m disp s
  | .movbDispRb m disp n => Sys2Proof.Machine.execMovbDispRb m disp n s
  | .movbIndMem n mem => Sys2Proof.Machine.execMovbIndMem n mem s
  | .movbMemInd mem n => Sys2Proof.Machine.execMovbMemInd mem n s
  | .movbRegMem reg mem => Sys2Proof.Machine.execMovbRegMem reg mem s
  | .movbMemReg mem reg => Sys2Proof.Machine.execMovbMemReg mem reg s
  | .movbsRwRb n m => Sys2Proof.Machine.execMovbsRwRb n m s
  | .movbsRegMem reg mem => Sys2Proof.Machine.execMovbsRegMem reg mem s
  | .movbsMemReg mem reg => Sys2Proof.Machine.execMovbsMemReg mem reg s
  | .movbzRwRb n m => Sys2Proof.Machine.execMovbzRwRb n m s
  | .movbzRegMem reg mem => Sys2Proof.Machine.execMovbzRegMem reg mem s
  | .movbzMemReg mem reg => Sys2Proof.Machine.execMovbzMemReg mem reg s
  | .jmpa cc caddr => Sys2Proof.Machine.execJmpa cc caddr s
  | .jmpi cc n => Sys2Proof.Machine.execJmpi cc n s
  | .jmpr cc rel => Sys2Proof.Machine.execJmpr cc rel s
  | .jmps seg caddr => Sys2Proof.Machine.execJmps seg caddr s
  | .jb bitoff pos rel => Sys2Proof.Machine.execJb bitoff pos rel s
  | .jbc bitoff pos rel => Sys2Proof.Machine.execJbc bitoff pos rel s
  | .jnb bitoff pos rel => Sys2Proof.Machine.execJnb bitoff pos rel s
  | .jnbs bitoff pos rel => Sys2Proof.Machine.execJnbs bitoff pos rel s
  | .calla cc caddr => Sys2Proof.Machine.execCalla cc caddr s
  | .calli cc n => Sys2Proof.Machine.execCalli cc n s
  | .callr rel => Sys2Proof.Machine.execCallr rel s
  | .calls seg caddr => Sys2Proof.Machine.execCalls seg caddr s
  | .pcall reg caddr => Sys2Proof.Machine.execPcall reg caddr s
  | .trap trap7 => Sys2Proof.Machine.execTrap trap7 s
  | .pop reg => Sys2Proof.Machine.execPop reg s
  | .push reg => Sys2Proof.Machine.execPush reg s
  | .scxtRegData16 reg data16 => Sys2Proof.Machine.execScxtRegData16 reg data16 s
  | .scxtRegMem reg mem => Sys2Proof.Machine.execScxtRegMem reg mem s
  | .ret => Sys2Proof.Machine.execRet s
  | .rets => Sys2Proof.Machine.execRets s
  | .retp reg => Sys2Proof.Machine.execRetp reg s
  | .reti => Sys2Proof.Machine.execReti s
  | .srst => Sys2Proof.Machine.execSrst s
  | .idle => Sys2Proof.Machine.execIdle s
  | .pwrdn => Sys2Proof.Machine.execPwrdn s
  | .srvwdt => Sys2Proof.Machine.execSrvwdt s
  | .diswdt => Sys2Proof.Machine.execDiswdt s
  | .einit => Sys2Proof.Machine.execEinit s
  | .atomic irang2 => Sys2Proof.Machine.execAtomic irang2 s
  | .extr irang2 => Sys2Proof.Machine.execExtr irang2 s
  | .extpRw m irang2 => Sys2Proof.Machine.execExtpRw m irang2 s
  | .extpPag pag10 irang2 => Sys2Proof.Machine.execExtpPag pag10 irang2 s
  | .extprRw m irang2 => Sys2Proof.Machine.execExtprRw m irang2 s
  | .extprPag pag10 irang2 => Sys2Proof.Machine.execExtprPag pag10 irang2 s
  | .extsRw m irang2 => Sys2Proof.Machine.execExtsRw m irang2 s
  | .extsSeg seg8 irang2 => Sys2Proof.Machine.execExtsSeg seg8 irang2 s
  | .extsrRw m irang2 => Sys2Proof.Machine.execExtsrRw m irang2 s
  | .extsrSeg seg8 irang2 => Sys2Proof.Machine.execExtsrSeg seg8 irang2 s
  | .nop => Sys2Proof.Machine.execNop s

end Sys2Proof.Machine
end

