-- ==== Sys2Proof/Machine/Fetch.lean ====
section
/-! DEFINITION. Instruction fetch (30_encoding.md R122, 20_memory.md R103, R109) and the placing of an instruction where
it is fetched. -/

namespace Sys2Proof.Machine

/-- The physical address of an instruction byte: CSP :: IP, no DPP, no override (20_memory.md R109). -/
def State.fetchAddress (s : State) (ip : Word) : Nat := segmentAddress s.cfg.variant s.csp ip

/-- Fetch the two bytes of an instruction word; a byte that the program stored to is refused (20_memory.md R103). -/
def fetchWord (s : State) (ip : Word) : Res (Byte × Byte) :=
  let pa := s.fetchAddress ip
  if s.stored.contains pa || s.stored.contains (pa + 1) then .error (.refuse (.storedCode pa))
  else (memReadW s pa).map (fun w => (lowByte w, highByte w))

/-- The bytes of the instruction at IP: one word, and a second at IP + 2 where the first byte asks for it
(30_encoding.md R122). R150 leaves open how many bytes an undefined opcode takes: that only its first word is fetched, so that
it traps whatever stands behind it, is the model's choice. DESIGN CHOICE (log 49), unsafe. -/
def fetchBytes (s : State) : Res (List Byte) := do
  let (b0, b1) ← fetchWord s s.ip
  if undefinedFirst s.cfg.variant b0 || lengthOf b0 == 2 then return [b0, b1]
  else
    let (b2, b3) ← fetchWord s (s.ip + 2)
    return [b0, b1, b2, b3]

/-- The stop that bytes without an instruction come to (30_encoding.md R150 to R153). -/
def decodeStop (s : State) (bytes : List Byte) : DecodeError → Stop
  | .undefinedOpcode => .trap (.undefinedOpcode (bytes.getD 0 0)) s
  | .protectionFault => .trap (.protectionFault (bytes.getD 0 0)) s
  | .noSuchEncoding => .refuse (.noSuchEncoding (bytes.getD 0 0) (bytes.getD 1 0) (bytes.getD 2 0) (bytes.getD 3 0))
  | .truncated => .refuse (.noSuchEncoding (bytes.getD 0 0) (bytes.getD 1 0) (bytes.getD 2 0) (bytes.getD 3 0))

/-- The instruction at IP. An odd IP traps before anything is fetched (20_memory.md R73, 60_exceptions.md R427, R433). -/
def fetch (s : State) : Res Instr :=
  if s.ip.toNat % 2 = 1 then .error (.trap (.illegalInstructionAccess s.ip) s)
  else do
    let bytes ← fetchBytes s
    match decode s.cfg.variant bytes with
    | .ok (i, _) => .ok i
    | .error e => .error (decodeStop s bytes e)

/-- Place one byte of a program from outside the machine (log 32): it is not a store of the program. -/
def State.placeByte (s : State) (pa : Nat) (v : Byte) : State :=
  { s with mem := s.mem.write s.cfg pa v, stored := s.stored.erase pa }

/-- Place an instruction, given as the opcode table's integer view of `nbits` bits, at IP: four bytes, those above
`nbits` zero (30_encoding.md R121). -/
def State.placeInstruction (s : State) (nbits w : Nat) : State :=
  let x := w % 2 ^ nbits
  (((s.placeByte (s.fetchAddress s.ip) (byteOfNumber x 0)).placeByte (s.fetchAddress s.ip + 1) (byteOfNumber x 1)).placeByte
    (s.fetchAddress (s.ip + 2)) (byteOfNumber x 2)).placeByte (s.fetchAddress (s.ip + 2) + 1) (byteOfNumber x 3)

end Sys2Proof.Machine
end

