-- ==== Sys2Proof/Machine/Requests.lean ====
section
/-! DEFINITION. Requests from outside the CPU, between instructions (60_exceptions.md R430, R431, R450;
47_system_control.md R392): which one is accepted and what its service does. -/

namespace Sys2Proof.Machine

/-- A request may be accepted: outside an ATOMIC or EXTended sequence an interrupt when IEN is set and its level is above
ILVL, and NMI and PEC always (60_exceptions.md R430, 10_state.md R47). A class B trap that waits is no request from outside
and a sequence does not lock it out (R423, R432, 47_system_control.md R399): it is entered when ILVL is below the 15 of a class
A routine, whatever that routine did to its TFR flag, which is not set again (the spec is silent; log 43). -/
def acceptable (s : State) (r : Request) : Bool :=
  match r with
  | .interrupt _ level => s.seqCount == 0 && (s.interruptsEnabled && decide (s.level.toNat < level.toNat))
  | .nmi => s.seqCount == 0
  | .pecWord _ _ => s.seqCount == 0
  | .pecByte _ _ => s.seqCount == 0
  | .classB _ => decide (s.level.toNat < 15)

/-- The request that is served next: the NMI before a class B trap, a class B trap before any other
(60_exceptions.md R433), then the oldest acceptable one (log 17). -/
def nextRequest (s : State) : Option Request :=
  if s.seqCount == 0 && s.pending.contains .nmi then some .nmi
  else (s.pending.find? (fun r => r.isClassB && acceptable s r)).or (s.pending.find? (acceptable s))

/-- A physical address of the device's width (20_memory.md R60). -/
def pecAddress (s : State) (a : BitVec 24) : Nat := a.toNat % 2 ^ paBits s.cfg.variant

/-- The service of a request (60_exceptions.md R421, R424, R430, R431, R433). A class B trap ends a sequence before its
routine is entered, and so lets a pending NMI go first (R432, R433; log 43). That one that stands in the queue is entered also
where HW_TRAP_ENTRY is off, a state that no run reaches and of which R436 says nothing, is the model's choice (log 50). The
order of a PEC word transfer's two accesses is that of R431. -/
def serve (s : State) (r : Request) : Res State :=
  match r with
  | .interrupt number level => enter s number s.ip level
  | .nmi => enterNmi s s.ip
  | .classB t => enterRaised s.endSequence t s.ip
  | .pecWord source destination => do
    let v ← memReadW s (pecAddress s source)
    memWriteW s (pecAddress s destination) v
  | .pecByte source destination => do
    let v ← memReadB s (pecAddress s source)
    memWriteB s (pecAddress s destination) v

/-- Accept a request: it leaves the queue and is served. R431 gives a PEC word transfer at an odd address no outcome: the
request is gone, and the word access raises IllegalWordOperandAccess as an instruction's would (20_memory.md R72), with the
address of the next instruction as its return address. DESIGN CHOICE (log 45), unsafe. -/
def accept (s : State) (r : Request) : Host.Outcome State Fault Refusal :=
  settle s.ip (serve { s with pending := s.pending.erase r } r)

/-- A step in Idle: any request wakes the CPU; without one nothing happens any more (47_system_control.md R391, R392,
60_exceptions.md R464, log 20). A class B trap that waits is no request from outside and does not wake it. That a request
wakes the CPU also while the sequence that IDLE stood in still locks it out, which R392 and D9 do not settle, is the
model's choice (log 48): it is accepted when the sequence has ended. -/
def idleStep (s : State) : Host.Outcome State Fault Refusal :=
  if s.withoutClassB.pending.isEmpty then .fault .idleWithoutRequest else .next { s with runState := .running }

/-- An external reset, or a watchdog overflow while the watchdog is enabled and the part is not powered down
(70_reset_and_hazards.md R470, 60_exceptions.md R450). -/
def resetRequested (s : State) : Bool :=
  s.extReset || (s.wdtOverflow && s.wdtEnabled && s.runState != .powerDown)

end Sys2Proof.Machine
end

