-- ==== Sys2Proof/Machine/Cycle.lean ====
section
/-! DEFINITION. One step of the machine: a reset, a step in a power state, the acceptance of a request, or one
instruction (60_exceptions.md R430, R433, R452, R463; 47_system_control.md R399). -/

namespace Sys2Proof.Machine

/-- The sequence counter after an instruction that is no starter completed (47_system_control.md R399). -/
def State.countInSequence (s : State) : State :=
  match s.seqCount with
  | 0 => s
  | 1 => s.endSequence
  | k + 2 => { s with seqCount := k + 1 }

/-- What follows an instruction that completed: it counts in a sequence unless it is a starter
(47_system_control.md R399). -/
def afterInstruction (i : Instr) (o : Host.Outcome State Fault Refusal) : Host.Outcome State Fault Refusal :=
  match o with
  | .next s => .next (if i.isStarter then s else s.countInSequence)
  | .fault f => .fault f
  | .refused r => .refused r

/-- Fetch, decode and execute one instruction. A trap of the fetch returns to IP: to the undefined or protected
instruction itself, or to the odd target (60_exceptions.md R425, R427, R428). -/
def instructionStep (s : State) : Host.Outcome State Fault Refusal :=
  match fetch s with
  | .error e => settle s.ip (.error e)
  | .ok i => afterInstruction i (exec i s)

/-- The class B trap that the instruction at IP raises, if it raises one: what the instruction comes to where a trap ends
the run (60_exceptions.md R425 to R428, R436). -/
def trapAhead (s : State) : Option Trap :=
  match instructionStep { s with cfg := { s.cfg with hwTrapEntry := false } } with
  | .fault (.hardwareTrap t) => some t
  | .fault _ => none
  | .next _ => none
  | .refused _ => none

/-- The TFR flag of the class B trap that the instruction at IP raises; none where a trap ends the run
(60_exceptions.md R433, R436). -/
def flagAhead (s : State) : Word :=
  match trapAhead s with
  | some t => if s.cfg.hwTrapEntry then trapFlag t else 0
  | none => 0

/-- A step while running. An NMI comes first, and the class B trap of the instruction at IP is flagged beside it; that trap
comes before any interrupt and PEC request, and a class B trap that waits shares its entry; else the class B trap that waits
or the request that is accepted is served, and without one the instruction at IP runs (60_exceptions.md R430, R433; log 43). -/
def runningStep (s : State) : Host.Outcome State Fault Refusal :=
  match nextRequest s with
  | some .nmi => accept { s with tfr := s.tfr ||| flagAhead s } .nmi
  | some r => if (trapAhead s).isSome then instructionStep s else accept s r
  | none => instructionStep s

/-- One step of the machine. -/
def cycle (s : State) : Host.Outcome State Fault Refusal :=
  if resetRequested s then .next s.doReset
  else
    match s.runState with
    | .powerDown => .fault .poweredDown
    | .idle => idleStep s
    | .running => runningStep s

end Sys2Proof.Machine
end

