-- ==== Sys2Proof/Safety.lean ====
section
/-! DEFINITION. What counts as a safe run, and the terms that the claims use: when an access is possible, what an
instruction that completes leaves, the results as the rules of spec/ write them, and the invariant. -/

namespace Sys2Proof.Machine

/-! ### When an access is possible -/

/-- The address names something. -/
def accessible (c : Config) (pa : Nat) : Bool :=
  match place c pa with
  | .absent _ => false
  | _ => true

/-- A word can be read at the address: it is even and both its bytes are there (20_memory.md R72, R106, R108). -/
def canReadW (s : State) (pa : Nat) : Bool := pa % 2 == 0 && (accessible s.cfg pa && accessible s.cfg (pa + 1))

/-- A byte can be read at the address (20_memory.md R74, R106, R108). -/
def canReadB (s : State) (pa : Nat) : Bool := accessible s.cfg pa

/-- The address takes writes; `v` is the word that a write to CP would leave there (20_memory.md R62, R106, R108). -/
def takesWrite (c : Config) (pa : Nat) (v : Word) : Bool :=
  match place c pa with
  | .absent _ => false
  | .rom => false
  | .sfr .cp => cpLegal v
  | _ => true

/-- A word can be written at the address: it is even and both its bytes take it. -/
def canWriteW (s : State) (pa : Nat) (v : Word) : Bool :=
  pa % 2 == 0 && (takesWrite s.cfg pa v && takesWrite s.cfg (pa + 1) v)

/-- A byte can be written at the address. -/
def canWriteB (s : State) (pa : Nat) (v : Byte) : Bool := takesWrite s.cfg pa (wordOfByte v pa)

/-- The address is readable and writable memory, no register. -/
def isPlain (s : State) (pa : Nat) : Bool := place s.cfg pa == .plain

/-- Both bytes of the word at the address are readable and writable memory, no register. -/
def isPlainWord (s : State) (pa : Nat) : Bool := isPlain s pa && isPlain s (pa + 1)

/-- The register bank lies in memory: CP is legal and its 32 bytes are memory (10_state.md R22, R39). -/
def bankReady (s : State) : Bool :=
  cpLegal s.cp && (List.range 32).all (fun k => isPlain s (s.cp.toNat + k))

/-- A `reg` operand can be addressed: an SFR always, a GPR through a bank in memory. -/
def regReady (s : State) (reg : Byte) : Bool := decide (reg.toNat < 0xF0) || bankReady s

/-- A `bitoff` operand can be addressed. -/
def bitoffReady (s : State) (b : Byte) : Bool := decide (b.toNat ≤ 0xEF) || bankReady s

/-- The address of a `reg` operand of a word instruction (20_memory.md R64). -/
def regW (s : State) (reg : Byte) : Nat :=
  if reg.toNat < 0xF0 then s.regSfrAddress reg else s.gprAddress (lo reg)

/-- The address of a `reg` operand of a byte instruction (20_memory.md R64). -/
def regB (s : State) (reg : Byte) : Nat :=
  if reg.toNat < 0xF0 then s.regSfrAddress reg else s.gprByteAddress (lo reg)

/-- The address of a `bitoff` operand (20_memory.md R65). -/
def bitoffW (s : State) (b : Byte) : Nat :=
  if b.toNat ≤ 0x7F then 0xFD00 + 2 * b.toNat
  else if b.toNat ≤ 0xEF then
    (match s.extSfr with
      | .standard => 0xFF00
      | .extended => 0xF100) + 2 * (b.toNat % 0x80)
  else s.gprAddress (lo b)

/-- The address of the k-th word below SP, where the k-th push writes (20_memory.md R98). -/
def stackBelow (s : State) (k : Nat) : Nat := (s.sp - BitVec.ofNat 16 (2 * k)).toNat

/-- The address of the k-th word from SP upward, where the (k+1)-th pop reads (20_memory.md R98). -/
def stackAbove (s : State) (k : Nat) : Nat := (s.sp + BitVec.ofNat 16 (2 * k)).toNat

/-- SP is even and the next k words that pushes write are memory (20_memory.md R98). -/
def roomBelow (s : State) (k : Nat) : Bool :=
  s.sp.toNat % 2 == 0 && (List.range k).all (fun j => isPlainWord s (stackBelow s (j + 1)))

/-- SP is even and the next k words that pops read are memory (20_memory.md R98). -/
def wordsAbove (s : State) (k : Nat) : Bool :=
  s.sp.toNat % 2 == 0 && (List.range k).all (fun j => isPlainWord s (stackAbove s j))

/-! ### What an instruction that completes leaves -/

/-- The outcome is a next state, and what holds of it. -/
def Completes (o : Host.Outcome State Fault Refusal) (holds : State → Prop) : Prop := ∃ t, o = .next t ∧ holds t

/-- Every field but IP, PSW and memory is as before. -/
def SameRegisters (s t : State) : Prop :=
  t = { s with ip := t.ip, psw := t.psw, mem := t.mem, stored := t.stored }

/-- PSW's bits other than the five flags are as before (10_state.md R33, R34). -/
def SameSystemBits (s t : State) : Prop := t.psw.extractLsb' 5 11 = s.psw.extractLsb' 5 11

/-- The state after an instruction that wrote a word result at `pa` and then its flags: exactly which state it is, what
the destination and PSW hold (10_state.md R37), and that nothing else changed. What the address `pa` of the even byte names
is the destination, whatever region the odd byte lies in (20_memory.md R108; the model's choice, log 51). -/
structure WordResult (s t : State) (pa : Nat) (r : Flagged 16) (length : Nat) : Prop where
  state : t = ((s.putWord pa r.val).setFlagsFor pa r.flags).goto (s.ipNext length)
  ip : t.ip = s.ipNext length
  value : isPlain s pa = true → t.wordAt pa = r.val
  flags : isPsw s.cfg pa = false → t.flags = r.flags ∧ SameSystemBits s t
  psw : isPsw s.cfg pa = true → t.psw = pswOf s.cfg r.val
  registers : isPlain s pa = true → SameRegisters s t
  memory : ∀ a, a ≠ pa → a ≠ pa + 1 → t.mem.read a = s.mem.read a

/-- The same for a byte result; the other byte of a word of memory stays (20_memory.md R74). -/
structure ByteResult (s t : State) (pa : Nat) (r : Flagged 8) (length : Nat) : Prop where
  state : t = ((s.putByte pa r.val).setFlagsFor pa r.flags).goto (s.ipNext length)
  ip : t.ip = s.ipNext length
  value : isPlain s pa = true → t.byteAt pa = r.val
  flags : isPsw s.cfg pa = false → t.flags = r.flags ∧ SameSystemBits s t
  psw : isPsw s.cfg pa = true → t.psw = pswOf s.cfg (wordOfByte r.val pa)
  registers : isPlain s pa = true → SameRegisters s t
  memory : isPlain s pa = true → ∀ a, a ≠ pa → t.mem.read a = s.mem.read a

/-- The state after an instruction that only writes the flags. -/
structure FlagResult (s t : State) (f : Flags) (length : Nat) : Prop where
  state : t = (s.setFlags f).goto (s.ipNext length)
  ip : t.ip = s.ipNext length
  flags : t.flags = f
  system : SameSystemBits s t
  registers : SameRegisters s t
  memory : t.mem = s.mem

/-! ### Results, as the rules write them -/

/-- The sum of 10_state.md R34 with a carry in: the flags in their bit forms; Z is `zero` of the result. -/
def sumResult {w : Nat} (a b : BitVec w) (cin : Bool) (zero : BitVec w → Bool) : Flagged w :=
  let r := a + b + BitVec.ofNat w cin.toNat
  { val := r
    flags :=
      { e := decide (b = BitVec.ofNat w (2 ^ (w - 1)))
        z := zero r
        v := a.msb == b.msb && r.msb != a.msb
        c := decide (2 ^ w ≤ a.toNat + b.toNat + cin.toNat)
        n := r.msb } }

/-- The difference of 10_state.md R34 with a borrow in; C is the borrow. -/
def differenceResult {w : Nat} (a b : BitVec w) (bin : Bool) (zero : BitVec w → Bool) : Flagged w :=
  let r := a - b - BitVec.ofNat w bin.toNat
  { val := r
    flags :=
      { e := decide (b = BitVec.ofNat w (2 ^ (w - 1)))
        z := zero r
        v := a.msb != b.msb && r.msb != a.msb
        c := decide (a.toNat < b.toNat + bin.toNat)
        n := r.msb } }

/-- A logical result r with source b: V and C cleared (41_logical.md R240). -/
def logicResult {w : Nat} (r b : BitVec w) : Flagged w :=
  { val := r
    flags :=
      { e := decide (b = BitVec.ofNat w (2 ^ (w - 1))), z := decide (r = 0), v := false, c := false, n := r.msb } }

/-- E, Z, N of a value moved; V and C as before (44_data_movement.md R288). -/
def movedFlags {w : Nat} (f : Flags) (v : BitVec w) : Flags :=
  { f with e := decide (v = BitVec.ofNat w (2 ^ (w - 1))), z := decide (v = 0), n := v.msb }

/-- A value moved with its flags. -/
def movedResult {w : Nat} (f : Flags) (v : BitVec w) : Flagged w := { val := v, flags := movedFlags f v }

/-- The loop of a shift's Operation, one bit at a time: the word, the carry and the rounding flag after k steps
(43_loop_prior_shift.md R275 to R279). `enters` is the bit that enters, from the word before the step. -/
def shiftRightLoop (enters : Word → Bool) : Nat → Word → Word × Bool × Bool
  | 0, x => (x, false, false)
  | k + 1, x =>
    let (y, c, v) := shiftRightLoop enters k x
    ((BitVec.ofBool (enters y) ++ y.extractLsb' 1 15), y.getLsbD 0, v || c)

/-- The loop of SHL's and ROL's Operation: the word and the carry after k steps (43_loop_prior_shift.md R275, R277). -/
def shiftLeftLoop (enters : Word → Bool) : Nat → Word → Word × Bool
  | 0, x => (x, false)
  | k + 1, x =>
    let (y, _) := shiftLeftLoop enters k x
    ((y.extractLsb' 0 15 ++ BitVec.ofBool (enters y)), y.getLsbD 15)

/-- A shift's result: E cleared, Z and N of the word (43_loop_prior_shift.md R268). -/
def shiftResult (r : Word) (c v : Bool) : Flagged 16 :=
  { val := r, flags := { e := false, z := decide (r = 0), v := v, c := c, n := r.msb } }

/-- The result of SHL, SHR, ROL, ROR, ASHR by `k` places, from the loops of their Operations
(43_loop_prior_shift.md R275 to R279). -/
def shiftedBy (op : ShiftOp) (x : Word) (k : Nat) : Flagged 16 :=
  match op with
  | .shl => let p := shiftLeftLoop (fun _ => false) k x; shiftResult p.1 p.2 false
  | .rol => let p := shiftLeftLoop (·.getLsbD 15) k x; shiftResult p.1 p.2 false
  | .shr => let p := shiftRightLoop (fun _ => false) k x; shiftResult p.1 p.2.1 p.2.2
  | .ror => let p := shiftRightLoop (·.getLsbD 0) k x; shiftResult p.1 p.2.1 p.2.2
  | .ashr => let p := shiftRightLoop (·.getLsbD 15) k x; shiftResult p.1 p.2.1 p.2.2

/-- The loop of PRIOR's Operation, at most `fuel` turns (43_loop_prior_shift.md R274). -/
def priorLoop : Nat → Word → Nat → Nat
  | 0, _, count => count
  | fuel + 1, tmp, count => if tmp.getLsbD 15 || count == 15 then count else priorLoop fuel (tmp <<< 1) (count + 1)

/-! ### The two-operand template, form by form (40_arithmetic.md R218) -/

/-- The seven forms of a word instruction whose result and flags are `f flags op1 op2`: each completes on operands that
can be accessed, and leaves the result, the flags and nothing else changed (40_arithmetic.md R218, R219). The form
`[Rwi+]` is taken with Rwi other than Rwn, and an indirect access off the pointer's own word: for the rest, which
20_memory.md R96 leaves open, see `Obligations.AliasedPointersRunOnFreeValues`. -/
def WordForms (f : Flags → Word → Word → Flagged 16) (rwRw : Nib → Nib → Instr) (rwInd rwIndInc : Nib → BitVec 2 → Instr)
    (rwData3 : Nib → BitVec 3 → Instr) (regData16 regMem : Byte → Word → Instr) (memReg : Word → Byte → Instr) : Prop :=
  (∀ s n m, bankReady s → Completes (exec (rwRw n m) s)
      (fun t => WordResult s t (s.gprAddress n) (f s.flags (s.gpr n) (s.gpr m)) 2)) ∧
  (∀ s n i, bankReady s → ∀ pa, pa = s.physData (s.gpr (pointerOf i)) → canReadW s pa →
    s.ownWord (pointerOf i) pa = false → Completes (exec (rwInd n i) s)
      (fun t => WordResult s t (s.gprAddress n) (f s.flags (s.gpr n) (s.wordAt pa)) 2)) ∧
  (∀ s n i, bankReady s → pointerOf i ≠ n → ∀ la, la = s.gpr (pointerOf i) → ∀ pa, pa = s.physData la →
    canReadW s pa → s.ownWord (pointerOf i) pa = false → Completes (exec (rwIndInc n i) s)
      (fun t => WordResult (s.storeWord (s.gprAddress (pointerOf i)) (la + 2)) t (s.gprAddress n)
        (f s.flags (s.gpr n) (s.wordAt pa)) 2)) ∧
  (∀ s n d, bankReady s → Completes (exec (rwData3 n d) s)
      (fun t => WordResult s t (s.gprAddress n) (f s.flags (s.gpr n) (d.setWidth 16)) 2)) ∧
  (∀ s reg d, regReady s reg → ∀ r, r = f s.flags (s.wordAt (regW s reg)) d → canReadW s (regW s reg) →
    canWriteW s (regW s reg) r.val → Completes (exec (regData16 reg d) s) (fun t => WordResult s t (regW s reg) r 4)) ∧
  (∀ s reg mem, regReady s reg → canReadW s (s.physData mem) → canReadW s (regW s reg) →
    ∀ r, r = f s.flags (s.wordAt (regW s reg)) (s.wordAt (s.physData mem)) → canWriteW s (regW s reg) r.val →
    Completes (exec (regMem reg mem) s) (fun t => WordResult s t (regW s reg) r 4)) ∧
  (∀ s mem reg, regReady s reg → canReadW s (s.physData mem) → canReadW s (regW s reg) →
    ∀ r, r = f s.flags (s.wordAt (s.physData mem)) (s.wordAt (regW s reg)) → canWriteW s (s.physData mem) r.val →
    Completes (exec (memReg mem reg) s) (fun t => WordResult s t (s.physData mem) r 4))

/-- The seven forms of a byte instruction (40_arithmetic.md R218); the pointers are word GPRs. -/
def ByteForms (f : State → Flags → Byte → Byte → Flagged 8) (rbRb : Nib → Nib → Instr)
    (rbInd rbIndInc : Nib → BitVec 2 → Instr) (rbData3 : Nib → BitVec 3 → Instr) (regData8 : Byte → Byte → Instr)
    (regMem : Byte → Word → Instr) (memReg : Word → Byte → Instr) : Prop :=
  (∀ s n m, bankReady s → Completes (exec (rbRb n m) s)
      (fun t => ByteResult s t (s.gprByteAddress n) (f s s.flags (s.gprByte n) (s.gprByte m)) 2)) ∧
  (∀ s n i, bankReady s → ∀ pa, pa = s.physData (s.gpr (pointerOf i)) → canReadB s pa →
    s.ownWord (pointerOf i) pa = false → Completes (exec (rbInd n i) s)
      (fun t => ByteResult s t (s.gprByteAddress n) (f s s.flags (s.gprByte n) (s.byteAt pa)) 2)) ∧
  (∀ s n i, bankReady s → pointerOf i ≠ wordOfByteGpr n → ∀ la, la = s.gpr (pointerOf i) → ∀ pa, pa = s.physData la →
    canReadB s pa → s.ownWord (pointerOf i) pa = false → Completes (exec (rbIndInc n i) s)
      (fun t => ByteResult (s.storeWord (s.gprAddress (pointerOf i)) (la + 1)) t (s.gprByteAddress n)
        (f s s.flags (s.gprByte n) (s.byteAt pa)) 2)) ∧
  (∀ s n d, bankReady s → Completes (exec (rbData3 n d) s)
      (fun t => ByteResult s t (s.gprByteAddress n) (f s s.flags (s.gprByte n) (d.setWidth 8)) 2)) ∧
  (∀ s reg d, regReady s reg → ∀ r, r = f s s.flags (s.byteAt (regB s reg)) d → canReadB s (regB s reg) →
    canWriteB s (regB s reg) r.val → Completes (exec (regData8 reg d) s) (fun t => ByteResult s t (regB s reg) r 4)) ∧
  (∀ s reg mem, regReady s reg → canReadB s (s.physData mem) → canReadB s (regB s reg) →
    ∀ r, r = f s s.flags (s.byteAt (regB s reg)) (s.byteAt (s.physData mem)) → canWriteB s (regB s reg) r.val →
    Completes (exec (regMem reg mem) s) (fun t => ByteResult s t (regB s reg) r 4)) ∧
  (∀ s mem reg, regReady s reg → canReadB s (s.physData mem) → canReadB s (regB s reg) →
    ∀ r, r = f s s.flags (s.byteAt (s.physData mem)) (s.byteAt (regB s reg)) → canWriteB s (s.physData mem) r.val →
    Completes (exec (memReg mem reg) s) (fun t => ByteResult s t (s.physData mem) r 4))

/-! ### The invariant -/

/-- The bit layout of PSW gives each of its 16 bits a place of its own in the word, and SGTDIS has a place in SYSCON
(00_scope.md R7). -/
def layoutLegal (c : Config) : Bool :=
  decide (c.pswPlaces.length = 16) && decide c.pswPlaces.Nodup && c.pswPlaces.all (fun j => decide (j < 16)) &&
    decide (c.sgtdisPlace < 16)

/-- A configuration whose reset values a machine can hold, a legal CP and a segment number of SEG_BITS bits, and whose bit
layouts are layouts. -/
def configLegal (c : Config) : Bool :=
  cpLegal c.resetState.cp && (segOf c.variant c.resetState.csp == c.resetState.csp) && layoutLegal c

/-- What every step keeps: memory in its canonical form, the sequence counter in 0..4 with the standard mode at 0 and no
sequence on a device without the instructions that start one (10_state.md R46, R48; 47_system_control.md R398), a legal
CP (10_state.md R39), CSP within SEG_BITS bits (R30), PSW's reserved bits 0 (R33), and a legal configuration. -/
structure StateInv (s : State) : Prop where
  mem : s.mem.wf s.cfg
  count : s.seqCount ≤ 4
  standard : s.seqCount = 0 → s.extSfr = .standard ∧ s.extData = .none
  device : s.cfg.variant.hasExt = false → s.seqCount = 0
  cp : cpLegal s.cp = true
  csp : segOf s.cfg.variant s.csp = s.csp
  psw : pswStored s.psw = s.psw
  config : configLegal s.cfg = true

/-- A safe step: it answers a next state. -/
def SafeStep (s : State) : Prop := ∃ t, step s = .next t

end Sys2Proof.Machine
end

