-- ==== Sys2Proof/Certificates/Slice0/Obligations.lean ====
section
/-! DEFINITION. The statements for the provers. Each docstring names the rules that the statement formalises; a clause
that rests on a choice of the model names its log entry. -/

open Sys2Proof Sys2Proof.Machine

/-- ADD, ADDB, ADDC, ADDCB complete in all seven forms with the sum (and carry) in op1, E, Z, V, C, N of it (Z chained for
ADDC, ADDCB), and nothing else changed (40_arithmetic.md R200 to R203, R218). A byte of an SFR clears the other byte of its
word (log 12); a result in PSW gets no flag update through `mem` either (log 13). -/
def Obligations.AdditionForms : Prop :=
  WordForms (fun _ a b => sumResult a b false (fun r => decide (r = 0))) .addRwRw .addRwInd .addRwIndInc .addRwData3 .addRegData16 .addRegMem
    .addMemReg ∧
  ByteForms (fun _ _ a b => sumResult a b false (fun r => decide (r = 0))) .addbRbRb .addbRbInd .addbRbIndInc .addbRbData3 .addbRegData8 .addbRegMem
    .addbMemReg ∧
  WordForms (fun f a b => sumResult a b f.c (fun r => decide (r = 0) && f.z)) .addcRwRw .addcRwInd .addcRwIndInc .addcRwData3 .addcRegData16 .addcRegMem
    .addcMemReg ∧
  ByteForms (fun _ f a b => sumResult a b f.c (fun r => decide (r = 0) && f.z)) .addcbRbRb .addcbRbInd .addcbRbIndInc .addcbRbData3 .addcbRegData8 .addcbRegMem
    .addcbMemReg

/-- SUB, SUBB, SUBC, SUBCB complete in all seven forms with the difference (and borrow) in op1 and its flags: C the borrow, Z
chained for SUBC, and for SUBCB as subcb_z_chained says (40_arithmetic.md R204 to R207, R218; log 11). A byte of an SFR clears
the other byte of its word (log 12); a result in PSW gets no flag update through `mem` either (log 13). -/
def Obligations.SubtractionForms : Prop :=
  WordForms (fun _ a b => differenceResult a b false (fun r => decide (r = 0))) .subRwRw .subRwInd .subRwIndInc .subRwData3 .subRegData16 .subRegMem
    .subMemReg ∧
  ByteForms (fun _ _ a b => differenceResult a b false (fun r => decide (r = 0))) .subbRbRb .subbRbInd .subbRbIndInc .subbRbData3 .subbRegData8 .subbRegMem
    .subbMemReg ∧
  WordForms (fun f a b => differenceResult a b f.c (fun r => decide (r = 0) && f.z)) .subcRwRw .subcRwInd .subcRwIndInc .subcRwData3 .subcRegData16 .subcRegMem
    .subcMemReg ∧
  ByteForms
    (fun s f a b => differenceResult a b f.c (fun r => decide (r = 0) && (f.z || !s.cfg.subcbZChained)))
    .subcbRbRb .subcbRbInd .subcbRbIndInc .subcbRbData3 .subcbRegData8 .subcbRegMem
    .subcbMemReg

/-- AND, OR, XOR and their byte versions complete in all seven forms with the bitwise result in op1, E of op2, Z and N of the
result, V and C cleared (41_logical.md R240 to R245, 40_arithmetic.md R218). A byte of an SFR clears the other byte of its
word (log 12); a result in PSW gets no flag update through `mem` either (log 13). -/
def Obligations.LogicForms : Prop :=
  WordForms (fun _ a b => logicResult (a &&& b) b) .andRwRw .andRwInd .andRwIndInc .andRwData3 .andRegData16 .andRegMem
    .andMemReg ∧
  ByteForms (fun _ _ a b => logicResult (a &&& b) b) .andbRbRb .andbRbInd .andbRbIndInc .andbRbData3 .andbRegData8 .andbRegMem
    .andbMemReg ∧
  WordForms (fun _ a b => logicResult (a ||| b) b) .orRwRw .orRwInd .orRwIndInc .orRwData3 .orRegData16 .orRegMem
    .orMemReg ∧
  ByteForms (fun _ _ a b => logicResult (a ||| b) b) .orbRbRb .orbRbInd .orbRbIndInc .orbRbData3 .orbRegData8 .orbRegMem
    .orbMemReg ∧
  WordForms (fun _ a b => logicResult (a ^^^ b) b) .xorRwRw .xorRwInd .xorRwIndInc .xorRwData3 .xorRegData16 .xorRegMem
    .xorMemReg ∧
  ByteForms (fun _ _ a b => logicResult (a ^^^ b) b) .xorbRbRb .xorbRbInd .xorbRbIndInc .xorbRbData3 .xorbRegData8 .xorbRegMem
    .xorbMemReg

/-- CMP and CMPB complete in all six forms and set the flags of op1 - op2; only `[Rwi+]` changes anything else, its pointer
(42_bit_and_compare.md R262, R263). The double uses of 20_memory.md R96 are in `AliasedPointersRunOnFreeValues`. -/
def Obligations.CompareForms : Prop :=
  (∀ (s : State) n m, bankReady s → Completes (exec (.cmpRwRw n m) s)
      (fun t => FlagResult s t (differenceResult (s.gpr n) (s.gpr m) false (fun r => decide (r = 0))).flags 2)) ∧
  (∀ (s : State) n i, bankReady s → ∀ pa, pa = s.physData (s.gpr (pointerOf i)) → canReadW s pa →
      s.ownWord (pointerOf i) pa = false → Completes (exec (.cmpRwInd n i) s)
      (fun t => FlagResult s t (differenceResult (s.gpr n) (s.wordAt pa) false (fun r => decide (r = 0))).flags 2)) ∧
  (∀ (s : State) n i, bankReady s → pointerOf i ≠ n → ∀ la, la = s.gpr (pointerOf i) → ∀ pa, pa = s.physData la →
      canReadW s pa → s.ownWord (pointerOf i) pa = false → Completes (exec (.cmpRwIndInc n i) s)
      (fun t => FlagResult (s.storeWord (s.gprAddress (pointerOf i)) (la + 2)) t
        (differenceResult (s.gpr n) (s.wordAt pa) false (fun r => decide (r = 0))).flags 2)) ∧
  (∀ (s : State) n (d : BitVec 3), bankReady s → Completes (exec (.cmpRwData3 n d) s)
      (fun t => FlagResult s t (differenceResult (s.gpr n) (d.setWidth 16) false (fun r => decide (r = 0))).flags 2)) ∧
  (∀ (s : State) reg d, regReady s reg → canReadW s (regW s reg) → Completes (exec (.cmpRegData16 reg d) s)
      (fun t => FlagResult s t (differenceResult (s.wordAt (regW s reg)) d false (fun r => decide (r = 0))).flags 4)) ∧
  (∀ (s : State) reg mem, regReady s reg → canReadW s (s.physData mem) → canReadW s (regW s reg) →
      Completes (exec (.cmpRegMem reg mem) s)
      (fun t => FlagResult s t
        (differenceResult (s.wordAt (regW s reg)) (s.wordAt (s.physData mem)) false (fun r => decide (r = 0))).flags 4)) ∧
  (∀ (s : State) n m, bankReady s → Completes (exec (.cmpbRbRb n m) s)
      (fun t => FlagResult s t (differenceResult (s.gprByte n) (s.gprByte m) false (fun r => decide (r = 0))).flags 2)) ∧
  (∀ (s : State) n i, bankReady s → ∀ pa, pa = s.physData (s.gpr (pointerOf i)) → canReadB s pa →
      s.ownWord (pointerOf i) pa = false → Completes (exec (.cmpbRbInd n i) s)
      (fun t => FlagResult s t (differenceResult (s.gprByte n) (s.byteAt pa) false (fun r => decide (r = 0))).flags 2)) ∧
  (∀ (s : State) n i, bankReady s → pointerOf i ≠ wordOfByteGpr n → ∀ la, la = s.gpr (pointerOf i) → ∀ pa, pa = s.physData la →
      canReadB s pa → s.ownWord (pointerOf i) pa = false → Completes (exec (.cmpbRbIndInc n i) s)
      (fun t => FlagResult (s.storeWord (s.gprAddress (pointerOf i)) (la + 1)) t
        (differenceResult (s.gprByte n) (s.byteAt pa) false (fun r => decide (r = 0))).flags 2)) ∧
  (∀ (s : State) n (d : BitVec 3), bankReady s → Completes (exec (.cmpbRbData3 n d) s)
      (fun t => FlagResult s t (differenceResult (s.gprByte n) (d.setWidth 8) false (fun r => decide (r = 0))).flags 2)) ∧
  (∀ (s : State) reg d, regReady s reg → canReadB s (regB s reg) → Completes (exec (.cmpbRegData8 reg d) s)
      (fun t => FlagResult s t (differenceResult (s.byteAt (regB s reg)) d false (fun r => decide (r = 0))).flags 4)) ∧
  (∀ (s : State) reg mem, regReady s reg → canReadB s (s.physData mem) → canReadB s (regB s reg) →
      Completes (exec (.cmpbRegMem reg mem) s)
      (fun t => FlagResult s t
        (differenceResult (s.byteAt (regB s reg)) (s.byteAt (s.physData mem)) false (fun r => decide (r = 0))).flags 4))

/-- MUL and MULU leave the exact signed and unsigned product in MD, E and C cleared, Z and N of the 32 bits, V when it does
not fit a word, and nothing else changed (40_arithmetic.md R208, R209). That Z, N and V are those of the 32-bit product is the
spec's decision D14 (log 34). -/
def Obligations.MultiplyResults : Prop :=
  ∀ (s : State) n m, bankReady s →
    Completes (exec (.mul n m) s) (fun t =>
      ∀ p : Int, p = (s.gpr n).toInt * (s.gpr m).toInt →
      t.md.toInt = p ∧ t.flags = ⟨false, decide (p = 0), decide (p < -32768 ∨ 32767 < p), false, t.md.msb⟩ ∧
      SameSystemBits s t ∧ t = { s with ip := s.ipNext 2, psw := t.psw, mdl := t.mdl, mdh := t.mdh }) ∧
    Completes (exec (.mulu n m) s) (fun t =>
      ∀ p : Nat, p = (s.gpr n).toNat * (s.gpr m).toNat →
      t.md.toNat = p ∧ t.flags = ⟨false, decide (p = 0), decide (0xFFFF < p), false, t.md.msb⟩ ∧
      SameSystemBits s t ∧ t = { s with ip := s.ipNext 2, psw := t.psw, mdl := t.mdl, mdh := t.mdh })

/-- DIV, DIVL, DIVU, DIVLU with a divisor that is not 0 and a quotient that fits leave quotient and remainder in MDL and MDH,
V, C, E cleared, Z and N of the quotient (40_arithmetic.md R210 to R213). The signed quotient is the truncating one where SDIV
is; under every SDIV a signed division completes and changes nothing else (log 10). That Z and N are those of the 16-bit
quotient is the spec's decision D14 (log 34). -/
def Obligations.DivideResults : Prop :=
  (∀ (s : State) n, bankReady s → s.cfg.sdiv = .truncating → (s.gpr n).toInt ≠ 0 →
      ¬(s.mdl.toInt = -32768 ∧ (s.gpr n).toInt = -1) →
      Completes (exec (.div n) s) (fun t =>
        t.mdl.toInt = s.mdl.toInt.tdiv (s.gpr n).toInt ∧ t.mdh.toInt = s.mdl.toInt.tmod (s.gpr n).toInt ∧
        t.flags = ⟨false, decide (t.mdl = 0), false, false, t.mdl.msb⟩ ∧ SameSystemBits s t ∧
        t = { s with ip := s.ipNext 2, psw := t.psw, mdl := t.mdl, mdh := t.mdh })) ∧
  (∀ (s : State) n, bankReady s → s.cfg.sdiv = .truncating → (s.gpr n).toInt ≠ 0 →
      -32768 ≤ s.md.toInt.tdiv (s.gpr n).toInt → s.md.toInt.tdiv (s.gpr n).toInt ≤ 32767 →
      Completes (exec (.divl n) s) (fun t =>
        t.mdl.toInt = s.md.toInt.tdiv (s.gpr n).toInt ∧ t.mdh.toInt = s.md.toInt.tmod (s.gpr n).toInt ∧
        t.flags = ⟨false, decide (t.mdl = 0), false, false, t.mdl.msb⟩ ∧ SameSystemBits s t ∧
        t = { s with ip := s.ipNext 2, psw := t.psw, mdl := t.mdl, mdh := t.mdh })) ∧
  (∀ (s : State) n, bankReady s → (s.gpr n).toNat ≠ 0 →
      Completes (exec (.divu n) s) (fun t =>
        t.mdl.toNat = s.mdl.toNat / (s.gpr n).toNat ∧ t.mdh.toNat = s.mdl.toNat % (s.gpr n).toNat ∧
        t.flags = ⟨false, decide (t.mdl = 0), false, false, t.mdl.msb⟩ ∧ SameSystemBits s t ∧
        t = { s with ip := s.ipNext 2, psw := t.psw, mdl := t.mdl, mdh := t.mdh })) ∧
  (∀ (s : State) n, bankReady s → s.mdh.toNat < (s.gpr n).toNat →
      Completes (exec (.divlu n) s) (fun t =>
        t.mdl.toNat = s.md.toNat / (s.gpr n).toNat ∧ t.mdh.toNat = s.md.toNat % (s.gpr n).toNat ∧
        t.flags = ⟨false, decide (t.mdl = 0), false, false, t.mdl.msb⟩ ∧ SameSystemBits s t ∧
        t = { s with ip := s.ipNext 2, psw := t.psw, mdl := t.mdl, mdh := t.mdh })) ∧
  (∀ (s : State) n, bankReady s → ∀ i, i = .div n ∨ i = .divl n →
      Completes (exec i s) (fun t => t.flags.e = false ∧ t.flags.c = false ∧ SameSystemBits s t ∧
        t = { s with ip := s.ipNext 2, psw := t.psw, mdl := t.mdl, mdh := t.mdh, freeCount := t.freeCount }))

/-- A division by 0, or whose quotient does not fit, completes with V set, E and C cleared; MDL, MDH, Z and N are whatever the
free values are, and nothing else changes (40_arithmetic.md R220; log 9). -/
def Obligations.DivideOverflow : Prop :=
  ∀ (s : State) n, bankReady s →
    let after := fun t : State =>
      t.flags.v = true ∧ t.flags.e = false ∧ t.flags.c = false ∧ SameSystemBits s t ∧
        t = { s with ip := s.ipNext 2, psw := t.psw, mdl := t.mdl, mdh := t.mdh, freeCount := t.freeCount }
    ((s.gpr n).toInt = 0 ∨ (s.cfg.sdiv = .truncating ∧ s.mdl.toInt = -32768 ∧ (s.gpr n).toInt = -1) →
      Completes (exec (.div n) s) after) ∧
    ((s.gpr n).toInt = 0 ∨ (s.cfg.sdiv = .truncating ∧
        (s.md.toInt.tdiv (s.gpr n).toInt < -32768 ∨ 32767 < s.md.toInt.tdiv (s.gpr n).toInt)) →
      Completes (exec (.divl n) s) after) ∧
    ((s.gpr n).toNat = 0 → Completes (exec (.divu n) s) after) ∧
    ((s.gpr n).toNat ≤ s.mdh.toNat → Completes (exec (.divlu n) s) after)

/-- CPL, CPLB, NEG, NEGB complete on every GPR: the complement with V and C cleared, 0 - op1 with the flags of that
subtraction; E of the operand before; their bytes (40_arithmetic.md R214 to R217). -/
def Obligations.ComplementAndNegate : Prop :=
  (∀ (n : Nib), encode (.cpl n) = [0x91, n ++ 0#4] ∧ encode (.cplb n) = [0xB1, n ++ 0#4] ∧
    encode (.neg n) = [0x81, n ++ 0#4] ∧ encode (.negb n) = [0xA1, n ++ 0#4]) ∧
  ∀ (s : State) n, bankReady s →
    Completes (exec (.cpl n) s) (fun t => WordResult s t (s.gprAddress n) (logicResult (~~~s.gpr n) (s.gpr n)) 2) ∧
    Completes (exec (.cplb n) s)
      (fun t => ByteResult s t (s.gprByteAddress n) (logicResult (~~~s.gprByte n) (s.gprByte n)) 2) ∧
    Completes (exec (.neg n) s)
      (fun t => WordResult s t (s.gprAddress n) (differenceResult 0 (s.gpr n) false (fun r => decide (r = 0))) 2) ∧
    Completes (exec (.negb n) s)
      (fun t => ByteResult s t (s.gprByteAddress n) (differenceResult 0 (s.gprByte n) false (fun r => decide (r = 0))) 2)

/-- Writing a bit changes that bit of the word and no other (20_memory.md R67). -/
def Obligations.BitReplacement : Prop :=
  ∀ (w : Word) (p : Nib) (b : Bool) (j : Nat), j < 16 →
    (withBit w p b).getLsbD j = if j = p.toNat then b else w.getLsbD j

/-- BCLR and BSET complete on every bit operand: the bit cleared or set, Z its complement and N the bit as it was, E, V, C
cleared; a destination in PSW gets no flag update (42_bit_and_compare.md R250, R251, R261). -/
def Obligations.BitClearAndSet : Prop :=
  ∀ (s : State) b p, bitoffReady s b → ∀ pa, pa = bitoffW s b → canReadW s pa → ∀ w, w = s.wordAt pa →
    ∀ f : Flags, f = ⟨false, !w.getLsbD p.toNat, false, false, w.getLsbD p.toNat⟩ →
    (canWriteW s pa (withBit w p false) → Completes (exec (.bclr b p) s)
      (fun t => WordResult s t pa { val := withBit w p false, flags := f } 2)) ∧
    (canWriteW s pa (withBit w p true) → Completes (exec (.bset b p) s)
      (fun t => WordResult s t pa { val := withBit w p true, flags := f } 2))

/-- BMOV, BMOVN, BAND, BOR, BXOR complete on every pair of bit operands with the result in the destination bit, and BCMP with
nothing written; the flags are those of the source bit (BMOV, BMOVN) or NOR, OR, AND, XOR of the two bits
(42_bit_and_compare.md R252 to R257, R260, R261, R264). -/
def Obligations.BitOperations : Prop :=
  ∀ (s : State) dst z src q, bitoffReady s dst → bitoffReady s src → canReadW s (bitoffW s src) →
    ∀ pa, pa = bitoffW s dst → canReadW s pa → ∀ w, w = s.wordAt pa →
    ∀ d, d = w.getLsbD z.toNat → ∀ b, b = (s.wordAt (bitoffW s src)).getLsbD q.toNat →
    (canWriteW s pa (withBit w z (b)) → Completes (exec (.bmov dst z src q) s)
      (fun t => WordResult s t pa { val := withBit w z (b), flags := ⟨false, !b, false, false, b⟩ } 4)) ∧
    (canWriteW s pa (withBit w z (!b)) → Completes (exec (.bmovn dst z src q) s)
      (fun t => WordResult s t pa { val := withBit w z (!b), flags := ⟨false, !b, false, false, b⟩ } 4)) ∧
    (canWriteW s pa (withBit w z (d && b)) → Completes (exec (.band dst z src q) s)
      (fun t => WordResult s t pa { val := withBit w z (d && b), flags := ⟨false, !(d || b), d || b, d && b, xor d b⟩ } 4)) ∧
    (canWriteW s pa (withBit w z (d || b)) → Completes (exec (.bor dst z src q) s)
      (fun t => WordResult s t pa { val := withBit w z (d || b), flags := ⟨false, !(d || b), d || b, d && b, xor d b⟩ } 4)) ∧
    (canWriteW s pa (withBit w z (xor d b)) → Completes (exec (.bxor dst z src q) s)
      (fun t => WordResult s t pa { val := withBit w z (xor d b), flags := ⟨false, !(d || b), d || b, d && b, xor d b⟩ } 4)) ∧
    Completes (exec (.bcmp dst z src q) s) (fun t => FlagResult s t ⟨false, !(d || b), d || b, d && b, xor d b⟩ 4)

/-- BFLDH and BFLDL complete on every `bitoff`: in the high or the low byte the bits selected by the mask give way and the
data is ORed in; Z and N of the word, E, V, C cleared (42_bit_and_compare.md R258, R259). -/
def Obligations.BitFields : Prop :=
  ∀ (s : State) b mask data, bitoffReady s b → ∀ pa, pa = bitoffW s b → canReadW s pa → ∀ w, w = s.wordAt pa →
    (∀ r : Word, r = ((w.extractLsb' 8 8 &&& ~~~mask) ||| data) ++ w.extractLsb' 0 8 → canWriteW s pa r →
      Completes (exec (.bfldh b mask data) s)
        (fun t => WordResult s t pa { val := r, flags := ⟨false, decide (r = 0), false, false, r.msb⟩ } 4)) ∧
    (∀ r : Word, r = w.extractLsb' 8 8 ++ ((w.extractLsb' 0 8 &&& ~~~mask) ||| data) → canWriteW s pa r →
      Completes (exec (.bfldl b mask data) s)
        (fun t => WordResult s t pa { val := r, flags := ⟨false, decide (r = 0), false, false, r.msb⟩ } 4))

/-- CMPD1, CMPD2, CMPI1, CMPI2 complete in all three forms: the flags of op1 - op2 with op1 as it was, and op1 moved by -1,
-2, +1, +2 modulo 2^16 (43_loop_prior_shift.md R269 to R273). -/
def Obligations.CompareAndLoop : Prop :=
  let forms := fun (delta : Word) (short : Nib → Nib → Instr) (long fromMem : Nib → Word → Instr) =>
    ∀ (s : State) n, bankReady s →
      let after := fun (b : Word) (length : Nat) (t : State) =>
        WordResult s t (s.gprAddress n)
          { val := s.gpr n + delta, flags := (differenceResult (s.gpr n) b false (fun r => decide (r = 0))).flags } length
      (∀ c : Nib, Completes (exec (short n c) s) (after (c.setWidth 16) 2)) ∧
      (∀ c, Completes (exec (long n c) s) (after c 4)) ∧
      (∀ mem, canReadW s (s.physData mem) → Completes (exec (fromMem n mem) s) (after (s.wordAt (s.physData mem)) 4))
  forms 0xFFFF .cmpd1RwData4 .cmpd1RwData16 .cmpd1RwMem ∧ forms 0xFFFE .cmpd2RwData4 .cmpd2RwData16 .cmpd2RwMem ∧
  forms 1 .cmpi1RwData4 .cmpi1RwData16 .cmpi1RwMem ∧ forms 2 .cmpi2RwData4 .cmpi2RwData16 .cmpi2RwMem

/-- PRIOR leaves in op1 the count of its Operation loop, 0 for 0, and sets Z exactly for 0; the other flags are cleared; its
bytes (43_loop_prior_shift.md R274). -/
def Obligations.PrioritizeCounts : Prop :=
  (∀ (n m : Nib), encode (.prior n m) = [0x2B, n ++ m]) ∧
  ∀ (s : State) n m, bankReady s → Completes (exec (.prior n m) s) (fun t =>
    WordResult s t (s.gprAddress n)
      { val := BitVec.ofNat 16 (if s.gpr m = 0 then 0 else priorLoop 15 (s.gpr m) 0)
        flags := ⟨false, decide (s.gpr m = 0), false, false, false⟩ } 2)

/-- SHL, SHR, ROL, ROR, ASHR complete in both forms: word, C and V are those that the loop of the Operation leaves after as
many turns as the count (the low four bits of a GPR), E cleared, Z and N of the word (43_loop_prior_shift.md R268, R275 to
R279). -/
def Obligations.ShiftForms : Prop :=
  ∀ (s : State) n, bankReady s →
    let after := fun (op : ShiftOp) (count : Nat) (t : State) =>
      WordResult s t (s.gprAddress n) (shiftedBy op (s.gpr n) count) 2
    (∀ m, Completes (exec (.shlRwRw n m) s) (after .shl ((s.gpr m).toNat % 16))) ∧
    (∀ c : Nib, Completes (exec (.shlRwData4 n c) s) (after .shl c.toNat)) ∧
    (∀ m, Completes (exec (.shrRwRw n m) s) (after .shr ((s.gpr m).toNat % 16))) ∧
    (∀ c : Nib, Completes (exec (.shrRwData4 n c) s) (after .shr c.toNat)) ∧
    (∀ m, Completes (exec (.rolRwRw n m) s) (after .rol ((s.gpr m).toNat % 16))) ∧
    (∀ c : Nib, Completes (exec (.rolRwData4 n c) s) (after .rol c.toNat)) ∧
    (∀ m, Completes (exec (.rorRwRw n m) s) (after .ror ((s.gpr m).toNat % 16))) ∧
    (∀ c : Nib, Completes (exec (.rorRwData4 n c) s) (after .ror c.toNat)) ∧
    (∀ m, Completes (exec (.ashrRwRw n m) s) (after .ashr ((s.gpr m).toNat % 16))) ∧
    (∀ c : Nib, Completes (exec (.ashrRwData4 n c) s) (after .ashr c.toNat))

/-- MOV with GPR, `reg`, immediate and `mem` operands completes: the value in op1, E, Z, N of it, V and C as before, no flag
update on PSW, nothing else changed (44_data_movement.md R288, R290, R291, R292, R304, R305). That PSW reached through `mem`
counts is log 13. -/
def Obligations.MoveWordDirect : Prop :=
  (∀ (s : State) n m, bankReady s → Completes (exec (.movRwRw n m) s)
      (fun t => WordResult s t (s.gprAddress n) (movedResult s.flags (s.gpr m)) 2)) ∧
  (∀ (s : State) n (c : Nib), bankReady s → Completes (exec (.movRwData4 n c) s)
      (fun t => WordResult s t (s.gprAddress n) (movedResult s.flags (c.setWidth 16)) 2)) ∧
  (∀ (s : State) reg c, regReady s reg → canWriteW s (regW s reg) c → Completes (exec (.movRegData16 reg c) s)
      (fun t => WordResult s t (regW s reg) (movedResult s.flags c) 4)) ∧
  (∀ (s : State) reg mem, regReady s reg → canReadW s (s.physData mem) → ∀ v, v = s.wordAt (s.physData mem) →
      canWriteW s (regW s reg) v → Completes (exec (.movRegMem reg mem) s)
      (fun t => WordResult s t (regW s reg) (movedResult s.flags v) 4)) ∧
  (∀ (s : State) mem reg, regReady s reg → canReadW s (regW s reg) → ∀ v, v = s.wordAt (regW s reg) →
      canWriteW s (s.physData mem) v → Completes (exec (.movMemReg mem reg) s)
      (fun t => WordResult s t (s.physData mem) (movedResult s.flags v) 4))

/-- MOV in its eleven indirect forms completes, with the pointer moved by 2 where the form says so (44_data_movement.md R293
to R303). That PSW reached through a pointer or `mem` gets no flag update is log 13 (D30). That `[Rwn+]` as a destination
increments the word that was Rwn before the store, also where the store writes CP, is the model's choice (log 41). The double
uses of 20_memory.md R96 are in `AliasedPointersRunOnFreeValues`. -/
def Obligations.MoveWordIndirect : Prop :=
  (∀ (s : State) n m, bankReady s → ∀ pa, pa = s.physData (s.gpr m) → canReadW s pa → s.ownWord m pa = false →
      Completes (exec (.movRwInd n m) s)
      (fun t => WordResult s t (s.gprAddress n) (movedResult s.flags (s.wordAt pa)) 2)) ∧
  (∀ (s : State) n m, bankReady s → m ≠ n → ∀ la, la = s.gpr m → ∀ pa, pa = s.physData la → canReadW s pa →
      s.ownWord m pa = false → Completes (exec (.movRwIndInc n m) s)
      (fun t => WordResult (s.storeWord (s.gprAddress m) (la + 2)) t (s.gprAddress n) (movedResult s.flags (s.wordAt pa)) 2)) ∧
  (∀ (s : State) m n, bankReady s → ∀ pa, pa = s.physData (s.gpr m) → canWriteW s pa (s.gpr n) → s.ownWord m pa = false →
      Completes (exec (.movIndRw m n) s) (fun t => WordResult s t pa (movedResult s.flags (s.gpr n)) 2)) ∧
  (∀ (s : State) m n, bankReady s → m ≠ n → ∀ la, la = s.gpr m - 2 → ∀ pa, pa = s.physData la →
      canWriteW s pa (s.gpr n) → s.ownWord m pa = false → Completes (exec (.movPreDecRw m n) s)
      (fun t => WordResult (s.storeWord (s.gprAddress m) la) t pa (movedResult s.flags (s.gpr n)) 2)) ∧
  (∀ (s : State) n m, bankReady s → ∀ qa, qa = s.physData (s.gpr m) → canReadW s qa → s.ownWord m qa = false →
      ∀ v, v = s.wordAt qa → ∀ pa, pa = s.physData (s.gpr n) → canWriteW s pa v → s.ownWord n pa = false →
      Completes (exec (.movIndInd n m) s) (fun t => WordResult s t pa (movedResult s.flags v) 2)) ∧
  (∀ (s : State) n m, bankReady s → n ≠ m → ∀ qa, qa = s.physData (s.gpr m) → canReadW s qa → s.ownWord m qa = false →
      ∀ v, v = s.wordAt qa → ∀ la, la = s.gpr n → ∀ pa, pa = s.physData la → canWriteW s pa v → s.ownWord n pa = false →
      Completes (exec (.movIndIncInd n m) s) (fun t =>
        t = (((s.putWord pa v).storeWord (s.gprAddress n) (la + 2)).setFlagsFor pa (movedFlags s.flags v)).goto
          (s.ipNext 2))) ∧
  (∀ (s : State) n m, bankReady s → n ≠ m → ∀ la, la = s.gpr m → ∀ qa, qa = s.physData la → canReadW s qa →
      s.ownWord m qa = false → ∀ v, v = s.wordAt qa → ∀ pa, pa = s.physData (s.gpr n) → canWriteW s pa v →
      s.ownWord n pa = false → Completes (exec (.movIndIndInc n m) s)
      (fun t => WordResult (s.storeWord (s.gprAddress m) (la + 2)) t pa (movedResult s.flags v) 2)) ∧
  (∀ (s : State) n m c, bankReady s → ∀ pa, pa = s.physData (s.gpr m + c) → canReadW s pa → s.ownWord m pa = false →
      Completes (exec (.movRwDisp n m c) s)
      (fun t => WordResult s t (s.gprAddress n) (movedResult s.flags (s.wordAt pa)) 4)) ∧
  (∀ (s : State) m c n, bankReady s → ∀ pa, pa = s.physData (s.gpr m + c) → canWriteW s pa (s.gpr n) →
      s.ownWord m pa = false → Completes (exec (.movDispRw m c n) s)
      (fun t => WordResult s t pa (movedResult s.flags (s.gpr n)) 4)) ∧
  (∀ (s : State) n mem, bankReady s → canReadW s (s.physData mem) → ∀ v, v = s.wordAt (s.physData mem) →
      ∀ pa, pa = s.physData (s.gpr n) → canWriteW s pa v → s.ownWord n pa = false →
      Completes (exec (.movIndMem n mem) s) (fun t => WordResult s t pa (movedResult s.flags v) 4)) ∧
  (∀ (s : State) mem n, bankReady s → ∀ qa, qa = s.physData (s.gpr n) → canReadW s qa → s.ownWord n qa = false →
      ∀ v, v = s.wordAt qa → canWriteW s (s.physData mem) v → Completes (exec (.movMemInd mem n) s)
      (fun t => WordResult s t (s.physData mem) (movedResult s.flags v) 4))

/-- MOVB with GPR, `reg`, immediate and `mem` operands completes; the other byte of a word of memory stays
(44_data_movement.md R310, R311, R312, R324, R325). A byte of an SFR clears the other byte of its word (log 12); a result in
PSW gets no flag update through `mem` either (log 13). -/
def Obligations.MoveByteDirect : Prop :=
  (∀ (s : State) n m, bankReady s → Completes (exec (.movbRbRb n m) s)
      (fun t => ByteResult s t (s.gprByteAddress n) (movedResult s.flags (s.gprByte m)) 2)) ∧
  (∀ (s : State) n (c : Nib), bankReady s → Completes (exec (.movbRbData4 n c) s)
      (fun t => ByteResult s t (s.gprByteAddress n) (movedResult s.flags (c.setWidth 8)) 2)) ∧
  (∀ (s : State) reg c, regReady s reg → canWriteB s (regB s reg) c → Completes (exec (.movbRegData8 reg c) s)
      (fun t => ByteResult s t (regB s reg) (movedResult s.flags c) 4)) ∧
  (∀ (s : State) reg mem, regReady s reg → canReadB s (s.physData mem) → ∀ v, v = s.byteAt (s.physData mem) →
      canWriteB s (regB s reg) v → Completes (exec (.movbRegMem reg mem) s)
      (fun t => ByteResult s t (regB s reg) (movedResult s.flags v) 4)) ∧
  (∀ (s : State) mem reg, regReady s reg → canReadB s (regB s reg) → ∀ v, v = s.byteAt (regB s reg) →
      canWriteB s (s.physData mem) v → Completes (exec (.movbMemReg mem reg) s)
      (fun t => ByteResult s t (s.physData mem) (movedResult s.flags v) 4))

/-- MOVB in its eleven indirect forms completes, with the pointer moved by 1 where the form says so (44_data_movement.md R313
to R323). A byte of an SFR clears the other byte of its word (D16, log 12); PSW reached through a pointer or `mem` gets no
flag update (D30, log 13). That `[Rwn+]` as a destination increments the word that was Rwn before the store, also where the
store writes CP, is the model's choice (log 41). The double uses of 20_memory.md R96 are in
`AliasedPointersRunOnFreeValues`. -/
def Obligations.MoveByteIndirect : Prop :=
  (∀ (s : State) n m, bankReady s → ∀ pa, pa = s.physData (s.gpr m) → canReadB s pa → s.ownWord m pa = false →
      Completes (exec (.movbRbInd n m) s)
      (fun t => ByteResult s t (s.gprByteAddress n) (movedResult s.flags (s.byteAt pa)) 2)) ∧
  (∀ (s : State) n m, bankReady s → m ≠ wordOfByteGpr n → ∀ la, la = s.gpr m → ∀ pa, pa = s.physData la → canReadB s pa →
      s.ownWord m pa = false → Completes (exec (.movbRbIndInc n m) s)
      (fun t => ByteResult (s.storeWord (s.gprAddress m) (la + 1)) t (s.gprByteAddress n) (movedResult s.flags (s.byteAt pa)) 2)) ∧
  (∀ (s : State) m n, bankReady s → ∀ pa, pa = s.physData (s.gpr m) → canWriteB s pa (s.gprByte n) → s.ownWord m pa = false →
      Completes (exec (.movbIndRb m n) s) (fun t => ByteResult s t pa (movedResult s.flags (s.gprByte n)) 2)) ∧
  (∀ (s : State) m n, bankReady s → m ≠ wordOfByteGpr n → ∀ la, la = s.gpr m - 1 → ∀ pa, pa = s.physData la →
      canWriteB s pa (s.gprByte n) → s.ownWord m pa = false → Completes (exec (.movbPreDecRb m n) s)
      (fun t => ByteResult (s.storeWord (s.gprAddress m) la) t pa (movedResult s.flags (s.gprByte n)) 2)) ∧
  (∀ (s : State) n m, bankReady s → ∀ qa, qa = s.physData (s.gpr m) → canReadB s qa → s.ownWord m qa = false →
      ∀ v, v = s.byteAt qa → ∀ pa, pa = s.physData (s.gpr n) → canWriteB s pa v → s.ownWord n pa = false →
      Completes (exec (.movbIndInd n m) s) (fun t => ByteResult s t pa (movedResult s.flags v) 2)) ∧
  (∀ (s : State) n m, bankReady s → n ≠ m → ∀ qa, qa = s.physData (s.gpr m) → canReadB s qa → s.ownWord m qa = false →
      ∀ v, v = s.byteAt qa → ∀ la, la = s.gpr n → ∀ pa, pa = s.physData la → canWriteB s pa v → s.ownWord n pa = false →
      Completes (exec (.movbIndIncInd n m) s) (fun t =>
        t = (((s.putByte pa v).storeWord (s.gprAddress n) (la + 1)).setFlagsFor pa (movedFlags s.flags v)).goto
          (s.ipNext 2))) ∧
  (∀ (s : State) n m, bankReady s → n ≠ m → ∀ la, la = s.gpr m → ∀ qa, qa = s.physData la → canReadB s qa →
      s.ownWord m qa = false → ∀ v, v = s.byteAt qa → ∀ pa, pa = s.physData (s.gpr n) → canWriteB s pa v →
      s.ownWord n pa = false → Completes (exec (.movbIndIndInc n m) s)
      (fun t => ByteResult (s.storeWord (s.gprAddress m) (la + 1)) t pa (movedResult s.flags v) 2)) ∧
  (∀ (s : State) n m c, bankReady s → ∀ pa, pa = s.physData (s.gpr m + c) → canReadB s pa → s.ownWord m pa = false →
      Completes (exec (.movbRbDisp n m c) s)
      (fun t => ByteResult s t (s.gprByteAddress n) (movedResult s.flags (s.byteAt pa)) 4)) ∧
  (∀ (s : State) m c n, bankReady s → ∀ pa, pa = s.physData (s.gpr m + c) → canWriteB s pa (s.gprByte n) →
      s.ownWord m pa = false → Completes (exec (.movbDispRb m c n) s)
      (fun t => ByteResult s t pa (movedResult s.flags (s.gprByte n)) 4)) ∧
  (∀ (s : State) n mem, bankReady s → canReadB s (s.physData mem) → ∀ v, v = s.byteAt (s.physData mem) →
      ∀ pa, pa = s.physData (s.gpr n) → canWriteB s pa v → s.ownWord n pa = false →
      Completes (exec (.movbIndMem n mem) s) (fun t => ByteResult s t pa (movedResult s.flags v) 4)) ∧
  (∀ (s : State) mem n, bankReady s → ∀ qa, qa = s.physData (s.gpr n) → canReadB s qa → s.ownWord n qa = false →
      ∀ v, v = s.byteAt qa → canWriteB s (s.physData mem) v → Completes (exec (.movbMemInd mem n) s)
      (fun t => ByteResult s t (s.physData mem) (movedResult s.flags v) 4))

/-- MOVBS and MOVBZ complete in all three forms: the byte sign- or zero-extended in a word, E cleared, Z and N of the byte (N
cleared for MOVBZ), V and C as before (44_data_movement.md R326, R330 to R335). That PSW reached through `mem` gets no flag
update is log 13. -/
def Obligations.MoveExtended : Prop :=
  let forms := fun (extend : Byte → Word) (sign : Byte → Bool) (rwRb : Nib → Nib → Instr) (regMem : Byte → Word → Instr)
      (memReg : Word → Byte → Instr) =>
    let result := fun (s : State) (v : Byte) =>
      ({ val := extend v, flags := { s.flags with e := false, z := decide (v = 0), n := sign v } } : Flagged 16)
    (∀ (s : State) n m, bankReady s → Completes (exec (rwRb n m) s)
      (fun t => WordResult s t (s.gprAddress n) (result s (s.gprByte m)) 2)) ∧
    (∀ (s : State) reg mem, regReady s reg → canReadB s (s.physData mem) → ∀ v, v = s.byteAt (s.physData mem) →
      canWriteW s (regW s reg) (extend v) → Completes (exec (regMem reg mem) s)
      (fun t => WordResult s t (regW s reg) (result s v) 4)) ∧
    (∀ (s : State) mem reg, regReady s reg → canReadB s (regB s reg) → ∀ v, v = s.byteAt (regB s reg) →
      canWriteW s (s.physData mem) (extend v) → Completes (exec (memReg mem reg) s)
      (fun t => WordResult s t (s.physData mem) (result s v) 4))
  forms (fun v => v.signExtend 16) (fun v => v.msb) .movbsRwRb .movbsRegMem .movbsMemReg ∧
  forms (fun v => v.setWidth 16) (fun _ => false) .movbzRwRb .movbzRegMem .movbzMemReg

/-- The model's choice (log 8): every form with a GPR pointer completes on every alias, those included for which 20_memory.md
R96 gives no result (a GPR that serves twice with an auto-modification, a pointer whose own word is accessed): IP at the
following instruction, the flags and no other bit of PSW written, every register and every byte of memory as before but the
destination and the pointer that moves, for every value of the free constants. -/
def Obligations.AliasedPointersRunOnFreeValues : Prop :=
  ∀ (s : State), bankReady s →
    let only := fun (length : Nat) (changed : List Nat) (t : State) =>
      t = { s with ip := s.ipNext length, psw := t.psw, mem := t.mem, stored := t.stored, freeCount := t.freeCount } ∧
        SameSystemBits s t ∧ ∀ a, a ∉ changed → t.mem.read a = s.mem.read a
    let word := fun (n : Nib) => [s.gprAddress n, s.gprAddress n + 1]
    let byte := fun (k : Nib) => [s.gprByteAddress k]
    let takesW := fun (pa : Nat) => pa % 2 = 0 ∧ isPlainWord s pa = true
    let takesB := fun (pa : Nat) => isPlain s pa = true
    (∀ n i, canReadW s (s.physData (s.gpr (pointerOf i))) →
      Completes (exec (.addRwInd n i) s) (only 2 (word n)) ∧
      Completes (exec (.addRwIndInc n i) s) (only 2 (word n ++ word (pointerOf i))) ∧
      Completes (exec (.addcRwInd n i) s) (only 2 (word n)) ∧
      Completes (exec (.addcRwIndInc n i) s) (only 2 (word n ++ word (pointerOf i))) ∧
      Completes (exec (.subRwInd n i) s) (only 2 (word n)) ∧
      Completes (exec (.subRwIndInc n i) s) (only 2 (word n ++ word (pointerOf i))) ∧
      Completes (exec (.subcRwInd n i) s) (only 2 (word n)) ∧
      Completes (exec (.subcRwIndInc n i) s) (only 2 (word n ++ word (pointerOf i))) ∧
      Completes (exec (.andRwInd n i) s) (only 2 (word n)) ∧
      Completes (exec (.andRwIndInc n i) s) (only 2 (word n ++ word (pointerOf i))) ∧
      Completes (exec (.orRwInd n i) s) (only 2 (word n)) ∧
      Completes (exec (.orRwIndInc n i) s) (only 2 (word n ++ word (pointerOf i))) ∧
      Completes (exec (.xorRwInd n i) s) (only 2 (word n)) ∧
      Completes (exec (.xorRwIndInc n i) s) (only 2 (word n ++ word (pointerOf i))) ∧
      Completes (exec (.cmpRwInd n i) s) (only 2 []) ∧
      Completes (exec (.cmpRwIndInc n i) s) (only 2 (word (pointerOf i)))) ∧
    (∀ n m, canReadW s (s.physData (s.gpr m)) →
      Completes (exec (.movRwInd n m) s) (only 2 (word n)) ∧
      Completes (exec (.movRwIndInc n m) s) (only 2 (word n ++ word m))) ∧
    (∀ n m c, canReadW s (s.physData (s.gpr m + c)) → Completes (exec (.movRwDisp n m c) s) (only 4 (word n))) ∧
    (∀ m n pa, pa = s.physData (s.gpr m) → takesW pa → Completes (exec (.movIndRw m n) s) (only 2 [pa, pa + 1])) ∧
    (∀ m n pa, pa = s.physData (s.gpr m - 2) → takesW pa →
      Completes (exec (.movPreDecRw m n) s) (only 2 (word m ++ [pa, pa + 1]))) ∧
    (∀ m c n pa, pa = s.physData (s.gpr m + c) → takesW pa → Completes (exec (.movDispRw m c n) s) (only 4 [pa, pa + 1])) ∧
    (∀ n mem pa, pa = s.physData (s.gpr n) → canReadW s (s.physData mem) → takesW pa →
      Completes (exec (.movIndMem n mem) s) (only 4 [pa, pa + 1])) ∧
    (∀ mem n pa, pa = s.physData mem → canReadW s (s.physData (s.gpr n)) → takesW pa →
      Completes (exec (.movMemInd mem n) s) (only 4 [pa, pa + 1])) ∧
    (∀ n m pa, pa = s.physData (s.gpr n) → canReadW s (s.physData (s.gpr m)) → takesW pa →
      Completes (exec (.movIndInd n m) s) (only 2 [pa, pa + 1]) ∧
      Completes (exec (.movIndIncInd n m) s) (only 2 (word n ++ [pa, pa + 1])) ∧
      (n ≠ m → Completes (exec (.movIndIndInc n m) s) (only 2 (word m ++ [pa, pa + 1])))) ∧
    (∀ n pa qa, pa = s.physData (s.gpr n) → qa = s.physData (s.gpr n + 2) → takesW pa → takesW qa →
      Completes (exec (.movIndIndInc n n) s) (fun t => only 2 (word n ++ [pa, pa + 1]) t ∨ only 2 (word n ++ [qa, qa + 1]) t)) ∧
    (∀ n i, canReadB s (s.physData (s.gpr (pointerOf i))) →
      Completes (exec (.addbRbInd n i) s) (only 2 (byte n)) ∧
      Completes (exec (.addbRbIndInc n i) s) (only 2 (byte n ++ word (pointerOf i))) ∧
      Completes (exec (.addcbRbInd n i) s) (only 2 (byte n)) ∧
      Completes (exec (.addcbRbIndInc n i) s) (only 2 (byte n ++ word (pointerOf i))) ∧
      Completes (exec (.subbRbInd n i) s) (only 2 (byte n)) ∧
      Completes (exec (.subbRbIndInc n i) s) (only 2 (byte n ++ word (pointerOf i))) ∧
      Completes (exec (.subcbRbInd n i) s) (only 2 (byte n)) ∧
      Completes (exec (.subcbRbIndInc n i) s) (only 2 (byte n ++ word (pointerOf i))) ∧
      Completes (exec (.andbRbInd n i) s) (only 2 (byte n)) ∧
      Completes (exec (.andbRbIndInc n i) s) (only 2 (byte n ++ word (pointerOf i))) ∧
      Completes (exec (.orbRbInd n i) s) (only 2 (byte n)) ∧
      Completes (exec (.orbRbIndInc n i) s) (only 2 (byte n ++ word (pointerOf i))) ∧
      Completes (exec (.xorbRbInd n i) s) (only 2 (byte n)) ∧
      Completes (exec (.xorbRbIndInc n i) s) (only 2 (byte n ++ word (pointerOf i))) ∧
      Completes (exec (.cmpbRbInd n i) s) (only 2 []) ∧
      Completes (exec (.cmpbRbIndInc n i) s) (only 2 (word (pointerOf i)))) ∧
    (∀ n m, canReadB s (s.physData (s.gpr m)) →
      Completes (exec (.movbRbInd n m) s) (only 2 (byte n)) ∧
      Completes (exec (.movbRbIndInc n m) s) (only 2 (byte n ++ word m))) ∧
    (∀ n m c, canReadB s (s.physData (s.gpr m + c)) → Completes (exec (.movbRbDisp n m c) s) (only 4 (byte n))) ∧
    (∀ m n pa, pa = s.physData (s.gpr m) → takesB pa → Completes (exec (.movbIndRb m n) s) (only 2 [pa])) ∧
    (∀ m n pa, pa = s.physData (s.gpr m - 1) → takesB pa →
      Completes (exec (.movbPreDecRb m n) s) (only 2 (word m ++ [pa]))) ∧
    (∀ m c n pa, pa = s.physData (s.gpr m + c) → takesB pa → Completes (exec (.movbDispRb m c n) s) (only 4 [pa])) ∧
    (∀ n mem pa, pa = s.physData (s.gpr n) → canReadB s (s.physData mem) → takesB pa →
      Completes (exec (.movbIndMem n mem) s) (only 4 [pa])) ∧
    (∀ mem n pa, pa = s.physData mem → canReadB s (s.physData (s.gpr n)) → takesB pa →
      Completes (exec (.movbMemInd mem n) s) (only 4 [pa])) ∧
    (∀ n m pa, pa = s.physData (s.gpr n) → canReadB s (s.physData (s.gpr m)) → takesB pa →
      Completes (exec (.movbIndInd n m) s) (only 2 [pa]) ∧
      Completes (exec (.movbIndIncInd n m) s) (only 2 (word n ++ [pa])) ∧
      (n ≠ m → Completes (exec (.movbIndIndInc n m) s) (only 2 (word m ++ [pa])))) ∧
    (∀ n pa qa, pa = s.physData (s.gpr n) → qa = s.physData (s.gpr n + 1) → takesB pa → takesB qa →
      Completes (exec (.movbIndIndInc n n) s) (fun t => only 2 (word n ++ [pa]) t ∨ only 2 (word n ++ [qa]) t))

/-- JMPA, JMPI, JMPR, JMPS, in the bytes of their formats, go to the target when the condition holds (JMPS always), else to
the following instruction, and change nothing else but CSP in JMPS (45_jump_call.md R340, R342 to R346). -/
def Obligations.AbsoluteAndRelativeJumps : Prop :=
  (∀ (s : State) cc caddr, exec (.jmpa cc caddr) s = .next { s with ip := if condition cc s.flags then caddr else s.ip + 4 }) ∧
  (∀ (s : State) cc n, (condition cc s.flags = true → bankReady s = true) →
    exec (.jmpi cc n) s = .next { s with ip := if condition cc s.flags then s.gpr n else s.ip + 2 }) ∧
  (∀ (s : State) cc rel, exec (.jmpr cc rel) s =
    .next { s with ip := if condition cc s.flags then s.ip + 2 + 2 * rel.signExtend 16 else s.ip + 2 }) ∧
  (∀ (s : State) seg caddr, exec (.jmps seg caddr) s = .next { s with csp := segOf s.cfg.variant seg, ip := caddr }) ∧
  (∀ (cc : Nib) (caddr : Word), encode (.jmpa cc caddr) = [0xEA, cc ++ 0#4, caddr.extractLsb' 0 8, caddr.extractLsb' 8 8]) ∧
  (∀ (cc n : Nib), encode (.jmpi cc n) = [0x9C, cc ++ n]) ∧
  (∀ (cc : Nib) (rel : Byte), encode (.jmpr cc rel) = [cc ++ 0xD#4, rel]) ∧
  (∀ (seg : Byte) (caddr : Word), encode (.jmps seg caddr) = [0xFA, seg, caddr.extractLsb' 0 8, caddr.extractLsb' 8 8])

/-- A segment number keeps its low eight bits on the C167 group and its low two on the SAB 8XC166 group (10_state.md R30,
45_jump_call.md R340). -/
def Obligations.SegmentNumberBits : Prop :=
  ∀ (seg : Byte) (j : Nat), (segOf .c167 seg).getLsbD j = seg.getLsbD j ∧
    (segOf .sab8xc166 seg).getLsbD j = (decide (j < 2) && seg.getLsbD j)

/-- JB and JNB, in the bytes of their formats, branch by the displacement when the bit is set, or clear, and change nothing
but IP (45_jump_call.md R342, R347, R349). -/
def Obligations.BitJumps : Prop :=
  (∀ (s : State) b p rel, bitoffReady s b → canReadW s (bitoffW s b) →
    ∀ set, set = (s.wordAt (bitoffW s b)).getLsbD p.toNat →
    exec (.jb b p rel) s = .next { s with ip := if set then s.ip + 4 + 2 * rel.signExtend 16 else s.ip + 4 } ∧
    exec (.jnb b p rel) s = .next { s with ip := if set then s.ip + 4 else s.ip + 4 + 2 * rel.signExtend 16 }) ∧
  (∀ (b : Byte) (p : Nib) (rel : Byte), encode (.jb b p rel) = [0x8A, b, rel, p ++ 0#4] ∧
    encode (.jnb b p rel) = [0x9A, b, rel, p ++ 0#4])

/-- JBC and JNBS, when the bit is set, or clear, invert it in one step and branch; otherwise nothing is written and the next
instruction follows; the flags are those of the old bit unless the word is PSW (45_jump_call.md R348, R350). -/
def Obligations.BitJumpsThatChangeTheBit : Prop :=
  ∀ (s : State) b p rel, bitoffReady s b → ∀ pa, pa = bitoffW s b → canReadW s pa → ∀ w, w = s.wordAt pa →
    ∀ f : Flags, f = ⟨false, !w.getLsbD p.toNat, false, false, w.getLsbD p.toNat⟩ →
    (w.getLsbD p.toNat = true → canWriteW s pa (withBit w p false) →
      exec (.jbc b p rel) s =
        .next (((s.putWord pa (withBit w p false)).setFlagsFor pa f).goto (s.ip + 4 + 2 * rel.signExtend 16))) ∧
    (w.getLsbD p.toNat = false → exec (.jbc b p rel) s = .next ((s.setFlagsFor pa f).goto (s.ip + 4))) ∧
    (w.getLsbD p.toNat = false → canWriteW s pa (withBit w p true) →
      exec (.jnbs b p rel) s =
        .next (((s.putWord pa (withBit w p true)).setFlagsFor pa f).goto (s.ip + 4 + 2 * rel.signExtend 16))) ∧
    (w.getLsbD p.toNat = true → exec (.jnbs b p rel) s = .next ((s.setFlagsFor pa f).goto (s.ip + 4)))

/-- CALLA, CALLI and CALLR push the address of the following instruction and go to the target; CALLA and CALLI with a
condition that fails only move on (45_jump_call.md R351 to R353, 20_memory.md R98). The stack lies in segment 0 at SP (log
25). -/
def Obligations.CallsWithinSegment : Prop :=
  ∀ (s : State), ∀ pushed : Word → State,
    pushed = (fun ret => { s with sp := s.sp - 2 }.storeWord (stackBelow s 1) ret) →
    (∀ cc caddr, (condition cc s.flags = true → roomBelow s 1 = true) → exec (.calla cc caddr) s =
      .next (if condition cc s.flags then (pushed (s.ip + 4)).goto caddr else s.goto (s.ip + 4))) ∧
    (∀ cc n, (condition cc s.flags = true → roomBelow s 1 = true ∧ bankReady s = true) → exec (.calli cc n) s =
      .next (if condition cc s.flags then (pushed (s.ip + 2)).goto (s.gpr n) else s.goto (s.ip + 2))) ∧
    (∀ rel, roomBelow s 1 → exec (.callr rel) s = .next ((pushed (s.ip + 2)).goto (s.ip + 2 + 2 * rel.signExtend 16)))

/-- CALLS pushes CSP and then the return address and goes to the segment and address; PCALL pushes the register as it was and
then the return address, with E, Z, N of the register (45_jump_call.md R354, R355). The stack lies in segment 0 at SP (log
25). -/
def Obligations.CallsThatPushTwoWords : Prop :=
  ∀ (s : State), roomBelow s 2 → ∀ pushed : Word → Word → State,
    pushed = (fun first second =>
      ({ s with sp := s.sp - 4 }.storeWord (stackBelow s 1) first).storeWord (stackBelow s 2) second) →
    (∀ seg caddr, exec (.calls seg caddr) s =
      .next { pushed (s.csp.setWidth 16) (s.ip + 4) with csp := segOf s.cfg.variant seg, ip := caddr }) ∧
    (∀ reg caddr, regReady s reg → canReadW s (regW s reg) → ∀ v, v = s.wordAt (regW s reg) →
      exec (.pcall reg caddr) s =
        .next (((pushed v (s.ip + 4)).setFlags (movedFlags s.flags v)).goto caddr))

/-- TRAP pushes PSW, CSP (which it clears) if SGTDIS = 0, and the return address, and goes to 4 * trap7; PSW is not changed
(45_jump_call.md R356). The word pushed for PSW is the one a program reads (00_scope.md R7; log 2). The stack lies in segment
0 at SP (log 25). -/
def Obligations.SoftwareTrapEntry : Prop :=
  ∀ (s : State) (t7 : BitVec 7),
    (s.segmentationDisabled = false → roomBelow s 3 → exec (.trap t7) s =
      .next { (({ s with sp := s.sp - 6 }.storeWord (stackBelow s 1) (s.readSfr .psw)).storeWord (stackBelow s 2)
        (s.csp.setWidth 16)).storeWord (stackBelow s 3) (s.ip + 2) with csp := 0, ip := BitVec.ofNat 16 (4 * t7.toNat) }) ∧
    (s.segmentationDisabled = true → roomBelow s 2 → exec (.trap t7) s =
      .next { ({ s with sp := s.sp - 4 }.storeWord (stackBelow s 1) (s.readSfr .psw)).storeWord (stackBelow s 2)
        (s.ip + 2) with ip := BitVec.ofNat 16 (4 * t7.toNat) })

/-- PUSH stores the register, read before SP moves, below SP; POP loads the register from SP, the write last (so that POP SP
leaves the popped word); E, Z, N of the word, for POP not on PSW (46_stack_return.md R370, R371). The stack lies in segment 0
at SP (log 25). -/
def Obligations.PushAndPop : Prop :=
  (∀ (s : State) reg, regReady s reg → canReadW s (regW s reg) → roomBelow s 1 → ∀ v, v = s.wordAt (regW s reg) →
    exec (.push reg) s =
      .next ((({ s with sp := s.sp - 2 }.storeWord (stackBelow s 1) v).setFlags (movedFlags s.flags v)).goto (s.ip + 2))) ∧
  (∀ (s : State) reg, regReady s reg → wordsAbove s 1 → ∀ v, v = s.wordAt (stackAbove s 0) → canWriteW s (regW s reg) v →
    Completes (exec (.pop reg) s)
      (fun t => WordResult { s with sp := s.sp + 2 } t (regW s reg) (movedResult s.flags v) 2))

/-- SCXT pushes the register as it was and loads the constant or the word read before the push; no flag changes unless the
register is PSW. The register's address is formed again after the push: where the push writes CP, the GPR of the new bank is
loaded (46_stack_return.md R372, R373). The stack lies in segment 0 at SP (log 25); that the even byte's address alone says that
a word is CP's is log 51. -/
def Obligations.ContextSwitch : Prop :=
  (∀ (s : State) reg, regReady s reg → canReadW s (regW s reg) → roomBelow s 1 → ∀ pushed : State,
    pushed = { s with sp := s.sp - 2 }.storeWord (stackBelow s 1) (s.wordAt (regW s reg)) →
    (∀ d, canWriteW s (regW s reg) d →
      exec (.scxtRegData16 reg d) s = .next ((pushed.putWord (regW s reg) d).goto (s.ip + 4))) ∧
    (∀ mem, canReadW s (s.physData mem) → ∀ v, v = s.wordAt (s.physData mem) → canWriteW s (regW s reg) v →
      exec (.scxtRegMem reg mem) s = .next ((pushed.putWord (regW s reg) v).goto (s.ip + 4)))) ∧
  (∀ (s : State) reg, 0xF0 ≤ reg.toNat → bankReady s → place s.cfg (stackBelow s 1) = .sfr .cp →
    canWriteW s (stackBelow s 1) (s.gpr (lo reg)) → ∀ moved : State,
    moved = { s with sp := s.sp - 2, cp := s.gpr (lo reg) }.markWord (stackBelow s 1) → bankReady moved →
    (∀ d, exec (.scxtRegData16 reg d) s =
      .next ((moved.storeWord (moved.gprAddress (lo reg)) d).goto (s.ip + 4))) ∧
    (∀ mem, canReadW s (s.physData mem) → exec (.scxtRegMem reg mem) s =
      .next ((moved.storeWord (moved.gprAddress (lo reg)) (s.wordAt (s.physData mem))).goto (s.ip + 4))))

/-- RET pops IP; RETS pops IP and then CSP; RETP pops IP and then a word into the register with its E, Z, N (not on PSW)
(46_stack_return.md R374 to R376). The stack lies in segment 0 at SP (log 25). -/
def Obligations.Returns : Prop :=
  (∀ (s : State), wordsAbove s 1 → exec .ret s = .next { s with sp := s.sp + 2, ip := s.wordAt (stackAbove s 0) }) ∧
  (∀ (s : State), wordsAbove s 2 → exec .rets s =
    .next { s with sp := s.sp + 4, ip := s.wordAt (stackAbove s 0)
                   csp := segOf s.cfg.variant ((s.wordAt (stackAbove s 1)).setWidth 8) }) ∧
  (∀ (s : State) reg, regReady s reg → wordsAbove s 2 → ∀ v, v = s.wordAt (stackAbove s 1) → canWriteW s (regW s reg) v →
    Completes (exec (.retp reg) s) (fun t =>
      t = (({ s with sp := s.sp + 4 }.putWord (regW s reg) v).setFlagsFor (regW s reg) (movedFlags s.flags v)).goto
        (s.wordAt (stackAbove s 0))))

/-- RETI pops IP, CSP if SGTDIS = 0, and PSW with all its bits (46_stack_return.md R377). That PSW's reserved bits stay 0 is
log 30; the places of PSW's bits in the word are log 2. The stack lies in segment 0 at SP (log 25). -/
def Obligations.ReturnFromInterrupt : Prop :=
  ∀ (s : State),
    (s.segmentationDisabled = false → wordsAbove s 3 → exec .reti s =
      .next { s with sp := s.sp + 6, ip := s.wordAt (stackAbove s 0)
                     csp := segOf s.cfg.variant ((s.wordAt (stackAbove s 1)).setWidth 8)
                     psw := pswOf s.cfg (s.wordAt (stackAbove s 2)) }) ∧
    (s.segmentationDisabled = true → wordsAbove s 2 → exec .reti s =
      .next { s with sp := s.sp + 4, ip := s.wordAt (stackAbove s 0), psw := pswOf s.cfg (s.wordAt (stackAbove s 1)) })

/-- RETI undoes TRAP, with segmentation enabled or disabled and under every bit layout of PSW: executed after it, in the state
it left, it gives back every register, IP at the instruction after the TRAP, and memory but for the words pushed
(46_stack_return.md R377, 45_jump_call.md R356, 60_exceptions.md R422). The stack lies in segment 0 at SP (log 25). -/
def Obligations.TrapThenReturnRestores : Prop :=
  ∀ (s : State) (t7 : BitVec 7), StateInv s → roomBelow s 3 →
    Completes (exec (.trap t7) s) (fun t => Completes (exec .reti t) (fun u =>
      u = { s with ip := s.ip + 2, mem := t.mem, stored := t.stored } ∧
      ∀ a, (∀ k, k < 3 → a ≠ stackBelow s (k + 1) ∧ a ≠ stackBelow s (k + 1) + 1) → u.mem.read a = s.mem.read a))

/-- SRST clears the flags, gives PSW's other bits RESET_STATE's values (the reserved ones 0, log 30), sets DPP0..DPP3 to 0..3,
enables and unlocks the watchdog, drives RSTOUT low, ends a sequence, and leaves memory as it was; the other registers take
RESET_STATE's values (10_state.md R55, 47_system_control.md R390, 70_reset_and_hazards.md R470, R472, R474). That no request
stays pending, that the two reset inputs are cleared and the level of the NMI pin kept, and that the marks of stores stay, is
the model's choice (log 38; at power-on log 3); that the platform's SFR words, which lie in memory, keep their content is log
44. -/
def Obligations.SoftwareReset : Prop :=
  ∀ (s : State), Completes (exec .srst s) (fun t =>
    t.flags = ⟨false, false, false, false, false⟩ ∧
    t.dpp0 = 0 ∧ t.dpp1 = 1 ∧ t.dpp2 = 2 ∧ t.dpp3 = 3 ∧
    t.wdtEnabled = true ∧ t.wdtLocked = false ∧ t.rstoutLow = true ∧ t.runState = .running ∧
    t.seqCount = 0 ∧ t.extSfr = .standard ∧ t.extData = .none ∧ t.pending = [] ∧
    t.ip = s.cfg.resetState.ip ∧ t.csp = s.cfg.resetState.csp ∧ t.sp = s.cfg.resetState.sp ∧
    t.cp = s.cfg.resetState.cp ∧ t.syscon = s.cfg.resetState.syscon ∧ t.mdl = s.cfg.resetState.mdl ∧
    t.mdh = s.cfg.resetState.mdh ∧ t.mdc = s.cfg.resetState.mdc ∧ t.stkov = s.cfg.resetState.stkov ∧
    t.stkun = s.cfg.resetState.stkun ∧ t.tfr = s.cfg.resetState.tfr ∧ t.wdt = s.cfg.resetState.wdt ∧
    t.psw.extractLsb' 10 6 = s.cfg.resetState.psw.extractLsb' 10 6 ∧ t.psw.extractLsb' 7 3 = 0 ∧
    t.psw.extractLsb' 5 2 = s.cfg.resetState.psw.extractLsb' 5 2 ∧ t.psw.extractLsb' 0 5 = 0 ∧
    t.level = s.cfg.resetState.psw.extractLsb' 12 4 ∧ t.interruptsEnabled = s.cfg.resetState.psw.getLsbD 11 ∧
    t.wdtOverflow = false ∧ t.extReset = false ∧ t.nmiLow = s.nmiLow ∧
    t.mem = s.mem ∧ t.stored = s.stored ∧ t.cfg = s.cfg)

/-- The machine right after reset: the values that spec/ states (flags 0, DPPn = n, watchdog enabled and not locked, RSTOUT
low, running, no sequence), the family's values that the model presumes for IP, CSP, PSW's other bits, SP, CP, STKOV, STKUN,
MDL, MDH, MDC, TFR, SGTDIS, the watchdog counter and the empty queue (log 3; SYSCON's other bits are a choice, log 3), no
input asserted (log 18, log 19), GPRs that read 0 and no byte of memory written, which are the model's reading of R107 (log 4)
(10_state.md R55, 70_reset_and_hazards.md R470). -/
def Obligations.ResetState : Prop :=
  State.reset.flags = ⟨false, false, false, false, false⟩ ∧
  State.reset.dpp0 = 0 ∧ State.reset.dpp1 = 1 ∧ State.reset.dpp2 = 2 ∧ State.reset.dpp3 = 3 ∧
  State.reset.wdtEnabled = true ∧ State.reset.wdtLocked = false ∧ State.reset.rstoutLow = true ∧
  State.reset.runState = .running ∧ State.reset.seqCount = 0 ∧ State.reset.extSfr = .standard ∧
  State.reset.extData = .none ∧ State.reset.ip = 0 ∧ State.reset.csp = 0 ∧ State.reset.psw = 0 ∧
  State.reset.sp = 0xFC00 ∧ State.reset.cp = 0xFC00 ∧ State.reset.stkov = 0xFA00 ∧ State.reset.stkun = 0xFC00 ∧
  State.reset.mdl = 0 ∧ State.reset.mdh = 0 ∧ State.reset.mdc = 0 ∧ State.reset.tfr = 0 ∧ State.reset.wdt = 0 ∧
  State.reset.syscon = 0 ∧ State.reset.segmentationDisabled = false ∧ State.reset.pending = [] ∧
  State.reset.nmiLow = false ∧ State.reset.wdtOverflow = false ∧ State.reset.extReset = false ∧
  (∀ n, State.reset.gpr n = 0) ∧ State.reset.mem = [] ∧ State.reset.stored = []

/-- IDLE moves on and sets Idle; PWRDN moves on, and sets PowerDown exactly when the NMI pin is low. A step in Idle with no
interrupt, NMI or PEC request and without a reset, and one in PowerDown without an external reset, execute nothing
(47_system_control.md R391, R393, 60_exceptions.md R463, R464). Any such request wakes Idle (R392), a class B trap that waits
does not; that every kind of request does, that an overflow of a disabled watchdog does not, and the two named faults are the
model's reading (log 20); that it wakes inside a sequence too is log 48. -/
def Obligations.IdleAndPowerDown : Prop :=
  (∀ (s : State), exec .idle s = .next { s with ip := s.ip + 4, runState := .idle }) ∧
  (∀ (s : State), exec .pwrdn s = .next { s with ip := s.ip + 4, runState := if s.nmiLow then .powerDown else s.runState }) ∧
  (∀ (s : State), s.runState = .idle → (∀ r ∈ s.pending, ∃ trap, r = .classB trap) → resetRequested s = false →
    step s = .fault .idleWithoutRequest) ∧
  (∀ (s : State) r, s.runState = .idle → r ∈ s.pending → (∀ trap, r ≠ .classB trap) → resetRequested s = false →
    step s = .next { s with runState := .running }) ∧
  (∀ (s : State), s.runState = .powerDown → s.extReset = false → step s = .fault .poweredDown)

/-- SRVWDT reloads the counter's high byte with WDT_PRESET, clears its low byte and locks the watchdog; DISWDT disables it
only while not locked; EINIT releases RSTOUT and locks it; nothing else changes (47_system_control.md R394 to R396,
10_state.md R49, R50). The preset value is a parameter (log 18); that EINIT leaves SYSCON writable is log 28. -/
def Obligations.WatchdogAndInitialisation : Prop :=
  ∀ (s : State),
    (exec .srvwdt s = .next { s with ip := s.ip + 4, wdtLocked := true
                                     wdt := BitVec.ofNat 16 (s.cfg.wdtPreset.toNat * 256) }) ∧
    (s.wdtLocked = false → exec .diswdt s = .next { s with ip := s.ip + 4, wdtEnabled := false }) ∧
    (s.wdtLocked = true → exec .diswdt s = .next { s with ip := s.ip + 4 }) ∧
    (exec .einit s = .next { s with ip := s.ip + 4, rstoutLow := false, wdtLocked := true })

/-- ATOMIC, EXTR, EXTP, EXTPR, EXTS, EXTSR in all ten forms load the counter with the range and set the three mode fields,
replacing those of a running sequence, and change nothing else (47_system_control.md R399 to R409). That a starter inside a
sequence replaces the whole mode (D22) and that only the low ten or eight bits of Rwm count (D25) are the spec's decisions
(log 24). -/
def Obligations.SequenceStarters : Prop :=
  ∀ (s : State) (g : BitVec 2), ∀ started : Nat → SfrRange → DataOverride → State,
    started = (fun length sfr data =>
      { s with ip := s.ipNext length, seqCount := g.toNat + 1, extSfr := sfr, extData := data }) →
    exec (.atomic g) s = .next (started 2 .standard .none) ∧
    exec (.extr g) s = .next (started 2 .extended .none) ∧
    (∀ m, bankReady s → exec (.extpRw m g) s = .next (started 2 .standard (.page ((s.gpr m).setWidth 10)))) ∧
    (∀ p, exec (.extpPag p g) s = .next (started 4 .standard (.page p))) ∧
    (∀ m, bankReady s → exec (.extprRw m g) s = .next (started 2 .extended (.page ((s.gpr m).setWidth 10)))) ∧
    (∀ p, exec (.extprPag p g) s = .next (started 4 .extended (.page p))) ∧
    (∀ m, bankReady s → exec (.extsRw m g) s = .next (started 2 .standard (.segment ((s.gpr m).setWidth 8)))) ∧
    (∀ seg, exec (.extsSeg seg g) s = .next (started 4 .standard (.segment seg))) ∧
    (∀ m, bankReady s → exec (.extsrRw m g) s = .next (started 2 .extended (.segment ((s.gpr m).setWidth 8)))) ∧
    (∀ seg, exec (.extsrSeg seg g) s = .next (started 4 .extended (.segment seg)))

/-- After every instruction that completes and is no starter the sequence counter goes down by one, and at 0 the mode is the
standard one; a starter is not counted (47_system_control.md R399, 10_state.md R46; decision D22, log 24). -/
def Obligations.SequenceCountsInstructions : Prop :=
  ∀ (s : State) i, resetRequested s = false → s.runState = .running → nextRequest s = none → fetch s = .ok i →
    ∀ t, exec i s = .next t →
    Completes (step s) (fun u =>
      (i.isStarter = true → u = t) ∧
      (i.isStarter = false → u.seqCount = t.seqCount - 1 ∧
        (t.seqCount = 1 → u.extSfr = .standard ∧ u.extData = .none) ∧
        (t.seqCount ≠ 1 → u.extSfr = t.extSfr ∧ u.extData = t.extData) ∧
        u = { t with seqCount := u.seqCount, extSfr := u.extSfr, extData := u.extData }))

/-- While the sequence counter is not 0 no interrupt, PEC request or NMI is accepted: where no class B trap waits the step is
that of the instruction, and the requests stay pending after it unless it is a reset (10_state.md R47, 47_system_control.md
R399). That they stay pending is D22 of 92_eei_decisions.md; that SRST clears them is log 38. A class B trap of the
instruction ends the sequence: it lets a pending NMI through, or takes the class B traps that wait with it, and no other
request (60_exceptions.md R432, R433; log 43): `HardwareTrapEntry` says what then happens. -/
def Obligations.SequenceLocksRequests : Prop :=
  (∀ (s : State), s.seqCount ≠ 0 → (∀ r, nextRequest s = some r → ∃ trap, r = .classB trap) ∧
    (resetRequested s = false → s.runState = .running → (∀ trap, .classB trap ∉ s.pending) → step s = instructionStep s)) ∧
  (∀ (s : State) t, fetch s ≠ .ok .srst → instructionStep s = .next t →
    t.pending = s.pending ∨ (s.cfg.hwTrapEntry = true ∧
      (.nmi ∉ s.pending ∧ t.pending = s.pending.filter (fun r => !r.isClassB) ∨
        .nmi ∈ s.pending ∧ ∃ trap, t.pending = s.pending.erase .nmi ++ [.classB trap]))) ∧
  (∀ (s : State) t, fetch s = .ok .srst → instructionStep s = .next t → t.pending = [])

/-- NOP, written CC 00, changes nothing but IP (47_system_control.md R410). -/
def Obligations.NoOperation : Prop :=
  encode .nop = [0xCC, 0x00] ∧ ∀ (s : State), exec .nop s = .next { s with ip := s.ip + 2 }

/-- The sixteen condition codes test the flags as the table of 10_state.md R36 says. -/
def Obligations.ConditionCodeTable : Prop :=
  ∀ f : Flags, (List.range 16).map (fun c => condition (BitVec.ofNat 4 c) f) =
    [true, !(f.z || f.e), f.z, !f.z, f.v, !f.v, f.n, !f.n, f.c, !f.c, !(f.z || xor f.n f.v), f.z || xor f.n f.v,
      xor f.n f.v, !(xor f.n f.v), !(f.z || f.c), f.z || f.c]

/-- An instruction whose destination is PSW writes the result to PSW and performs no flag update, through whatever addressing
mode; a byte result clears the other byte (10_state.md R37, 40_arithmetic.md R219). That every addressing mode counts is log
13 (D30); that the reserved bits stay 0 is log 30, and the places of the bits in the word are log 2; that the store is
remembered is log 15; that one byte's address says that the word is PSW's, whatever region the other lies in, is log 51. -/
def Obligations.PswAsDestination : Prop :=
  ∀ (s : State) pa, isPsw s.cfg pa = true →
    (∀ r : Flagged 16, canWriteW s pa r.val → finishW s pa r = .ok { s.markWord pa with psw := pswOf s.cfg r.val }) ∧
    (∀ r : Flagged 8, finishB s pa r =
      .ok { s.markWord (pa / 2 * 2) with
            psw := pswOf s.cfg (if pa % 2 = 0 then r.val.setWidth 16 else r.val.setWidth 16 <<< 8) })

/-- A byte written to an SFR writes the addressed byte and clears the other one of its word; a byte written to memory leaves
the other alone (20_memory.md R64, R74, R75, 92_eei_decisions.md D16; log 12). CSP keeps the bits of a segment number (log
30); the platform's declared words are written as SFRs are (log 31). A word written to DPP0..DPP3, SP, MDL, MDH, MDC, SYSCON,
STKOV, STKUN or TFR is read back, and no other register and no memory changes (R66). That the upper bits of a DPP register are
read back is D27 (log 36), that MDC and SYSCON are storage which EINIT does not lock log 28, that STKOV and STKUN are storage
log 27; that all this holds of a word whose other byte lies in a region of another kind is the model's choice (log 51). -/
def Obligations.SfrByteWriteClearsOtherByte : Prop :=
  ∀ (s : State) pa (v : Byte), ∀ w : Word, w = (if pa % 2 = 0 then v.setWidth 16 else v.setWidth 16 <<< 8) →
    (∀ r, place s.cfg pa = .sfr r → r ≠ .zeros → r ≠ .ones → r ≠ .csp → r ≠ .psw → canWriteB s pa v →
      Completes (settle 0 (memWriteB s pa v)) (fun t => t.byteAt pa = v ∧ t.readSfr r = w)) ∧
    (place s.cfg pa = .sfr .csp → Completes (settle 0 (memWriteB s pa v)) (fun t =>
      t.csp = segOf s.cfg.variant (w.extractLsb' 0 8) ∧ t.readSfr .csp = (segOf s.cfg.variant (w.extractLsb' 0 8)).setWidth 16)) ∧
    (∀ u, u = pa / 2 * 2 → ∀ word, place s.cfg pa = .device ∧ word = w ∨
        place s.cfg pa = .peripheral ∧ word = Config.deviceWrite u (s.memWord u) w →
      Completes (settle 0 (memWriteB s pa v)) (fun t =>
        t.memWord u = word ∧ ∀ a, a ≠ u → a ≠ u + 1 → t.mem.read a = s.mem.read a)) ∧
    (isPlain s pa = true → Completes (settle 0 (memWriteB s pa v)) (fun t =>
      t.memByte pa = v ∧ ∀ a, a ≠ pa → t.mem.read a = s.mem.read a)) ∧
    (∀ r, place s.cfg pa = .sfr r →
      r ∈ [.dpp0, .dpp1, .dpp2, .dpp3, .sp, .mdl, .mdh, .mdc, .syscon, .stkov, .stkun, .tfr] → ∀ x : Word, canWriteW s pa x →
      Completes (settle 0 (memWriteW s pa x)) (fun t =>
        memReadW t pa = .ok x ∧ (∀ q, q ≠ r → t.readSfr q = s.readSfr q) ∧ t.mem = s.mem ∧ t.ip = s.ip))

/-- A word written to memory is read back; its low byte lies at its address and its high byte above, and no other byte changes
(20_memory.md R70). The source never names the byte order: it is derived, decision D2 (log 33). -/
def Obligations.LittleEndianWords : Prop :=
  ∀ (s : State) pa (v : Word), isPlainWord s pa = true → pa % 2 = 0 →
    Completes (settle 0 (memWriteW s pa v)) (fun t =>
      memReadW t pa = .ok v ∧ t.memByte pa = v.setWidth 8 ∧ t.memByte (pa + 1) = (v >>> 8).setWidth 8 ∧
      ∀ a, a ≠ pa → a ≠ pa + 1 → t.mem.read a = s.mem.read a)

/-- A long or indirect address becomes a physical one through the DPP register that its bits 15..14 select, of which the C167
group uses ten bits and the SAB 8XC166 group four (an 18-bit address), or with the page or segment of an EXTended sequence in
place of it (20_memory.md R80 to R82, 10_state.md R40). That the upper bits of a DPP register are ignored is D27 (log 36). -/
def Obligations.DataAddressTranslation : Prop :=
  ∀ (s : State) (la : Word), ∀ dpp : Word,
    dpp = (if la.extractLsb' 14 2 = 0 then s.dpp0 else if la.extractLsb' 14 2 = 1 then s.dpp1
      else if la.extractLsb' 14 2 = 2 then s.dpp2 else s.dpp3) →
    (s.cfg.variant = .c167 →
      (s.extData = .none → s.physData la = (dpp.extractLsb' 0 10 ++ la.extractLsb' 0 14).toNat) ∧
      (∀ p, s.extData = .page p → s.physData la = (p ++ la.extractLsb' 0 14).toNat) ∧
      (∀ g, s.extData = .segment g → s.physData la = (g ++ la).toNat)) ∧
    (s.cfg.variant = .sab8xc166 → s.extData = .none →
      s.physData la = (dpp.extractLsb' 0 4 ++ la.extractLsb' 0 14).toNat ∧ s.physData la < 2 ^ 18)

/-- `reg` and `bitoff` SFR addresses name the SFR area, or the ESFR area inside an EXT*R sequence; the RAM and GPR ranges stay
(20_memory.md R64, R65). That they stay inside such a sequence is the spec's decision D28 (log 24). -/
def Obligations.ShortAddressRanges : Prop :=
  ∀ (s : State) (b : Byte),
    (b.toNat < 0xF0 → regAddressW s b = .ok ((if s.extSfr = .extended then 0xF000 else 0xFE00) + 2 * b.toNat) ∧
      regAddressB s b = regAddressW s b) ∧
    (0xF0 ≤ b.toNat → cpLegal s.cp → regAddressW s b = .ok (s.cp.toNat + 2 * (b.toNat - 0xF0)) ∧
      regAddressB s b = .ok (s.cp.toNat + (b.toNat - 0xF0)) ∧
      bitoffAddress s b = .ok (s.cp.toNat + 2 * (b.toNat - 0xF0))) ∧
    (b.toNat ≤ 0x7F → bitoffAddress s b = .ok (0xFD00 + 2 * b.toNat)) ∧
    (0x80 ≤ b.toNat → b.toNat < 0xF0 →
      bitoffAddress s b = .ok ((if s.extSfr = .extended then 0xF100 else 0xFF00) + 2 * (b.toNat - 0x80)))

/-- A word access at an odd address is not executed and raises IllegalWordOperandAccess: by default the run ends there; under
every setting it is raised in the state that the instruction has reached (log 7), with the following instruction as its return
address, and `HardwareTrapEntry` says what then happens (20_memory.md R72, 60_exceptions.md R426, R436; decision D8, log
6). -/
def Obligations.OddWordAccessTraps : Prop :=
  ∀ (s : State) pa, pa % 2 = 1 →
    (∀ v, memWriteW s pa v = .error (.trap (.illegalWordOperandAccess pa) s)) ∧
    memReadW s pa = .error (.trap (.illegalWordOperandAccess pa) s) ∧
    (∀ n m, bankReady s → s.cfg.hwTrapEntry = false → pa = s.physData (s.gpr m) →
      exec (.movRwInd n m) s = .fault (.hardwareTrap (.illegalWordOperandAccess pa)) ∧
      exec (.movIndRw m n) s = .fault (.hardwareTrap (.illegalWordOperandAccess pa))) ∧
    (∀ reg, pa = s.sp.toNat → s.cfg.hwTrapEntry = false →
      exec (.pop reg) s = .fault (.hardwareTrap (.illegalWordOperandAccess pa)) ∧
      exec .ret s = .fault (.hardwareTrap (.illegalWordOperandAccess pa))) ∧
    (∀ n m, bankReady s → pa = s.physData (s.gpr m) →
      exec (.movRwInd n m) s = raiseTrap s (.illegalWordOperandAccess pa) (s.ip + 2) ∧
      (s.ownWord m pa = false → exec (.movIndRw m n) s = raiseTrap s (.illegalWordOperandAccess pa) (s.ip + 2))) ∧
    (∀ reg mem, pa = s.physData mem →
      exec (.addRegMem reg mem) s = raiseTrap s (.illegalWordOperandAccess pa) (s.ip + 4)) ∧
    (∀ reg, pa = s.sp.toNat → exec (.pop reg) s = raiseTrap s (.illegalWordOperandAccess pa) (s.ip + 2) ∧
      exec .ret s = raiseTrap s (.illegalWordOperandAccess pa) (s.ip + 2)) ∧
    (∀ reg, pa = (s.sp - 2).toNat → regReady s reg → canReadW s (regW s reg) →
      exec (.push reg) s = raiseTrap { s with sp := s.sp - 2 } (.illegalWordOperandAccess pa) (s.ip + 2))

/-- With HW_TRAP_ENTRY a hardware trap ends the sequence, sets its TFR flag, pushes PSW, CSP (cleared) if SGTDIS = 0 and the
return address, sets ILVL to 15 and goes to the vector; every class B trap that waits shares the entry; nothing else changes.
Where an NMI is pending, its routine is entered first, with its TFR flag beside the other and the same return address, and the
class B trap waits. One that waits is entered between instructions, inside a sequence too, which it ends, with the address of
the next instruction, unless the instruction at IP raises a class B trap, with whose entry it goes; an NMI that the sequence
had locked out goes before it. Without HW_TRAP_ENTRY the run ends with the fault, but one that already waits is entered as
above, which no run reaches and is the model's choice (log 50) (60_exceptions.md R421, R424, R432, R433, R436; the trap
numbers, the flags and the level are PRESUMED, log 6; the wait is log 43; SGTDIS as for TRAP is D17, log 29; the stack is D3,
log 25). -/
def Obligations.HardwareTrapEntry : Prop :=
  ∀ (s : State) trap ret,
    let entry := fun (o : Host.Outcome State Fault Refusal) (base : State) (number : BitVec 7) (back : Word) =>
      let entered := fun (t : State) =>
        t.ip = BitVec.ofNat 16 (4 * number.toNat) ∧ t.level = 15 ∧ t.flags = s.flags ∧
          t.psw.extractLsb' 0 12 = s.psw.extractLsb' 0 12
      (s.segmentationDisabled = false → roomBelow s 3 → Completes o (fun t => entered t ∧
        t = { (({ base with sp := s.sp - 6 }.storeWord (stackBelow s 1) (s.readSfr .psw)).storeWord (stackBelow s 2)
          (s.csp.setWidth 16)).storeWord (stackBelow s 3) back with csp := 0, ip := t.ip, psw := t.psw })) ∧
      (s.segmentationDisabled = true → roomBelow s 2 → Completes o (fun t => entered t ∧
        t = { ({ base with sp := s.sp - 4 }.storeWord (stackBelow s 1) (s.readSfr .psw)).storeWord (stackBelow s 2) back with
              ip := t.ip, psw := t.psw }))
    (s.cfg.hwTrapEntry = false → raiseTrap s trap ret = .fault (.hardwareTrap trap)) ∧
    (s.cfg.hwTrapEntry = true → ∀ number tfr waiting,
      (.nmi ∉ s.pending ∧ number = trapNumber s.cfg.trapVectors trap ∧ tfr = s.tfr ||| trapFlag trap ∧
          waiting = s.pending.filter (fun r => !r.isClassB)) ∨
        (.nmi ∈ s.pending ∧ number = s.cfg.trapVectors.nmi ∧ tfr = s.tfr ||| trapFlag trap ||| 0x8000 ∧
          waiting = s.pending.erase .nmi ++ [.classB trap]) →
      entry (raiseTrap s trap ret)
        { s with seqCount := 0, extSfr := .standard, extData := .none, tfr := tfr, pending := waiting } number ret) ∧
    (s.runState = .running → resetRequested s = false → nextRequest s = some (.classB trap) →
      (trapAhead s ≠ none → step s = instructionStep s) ∧
      (trapAhead s = none → ∀ number tfr waiting,
        (.nmi ∉ s.pending ∧ number = trapNumber s.cfg.trapVectors trap ∧ tfr = s.tfr ∧
            waiting = s.pending.filter (fun r => !r.isClassB)) ∨
          (.nmi ∈ s.pending ∧ number = s.cfg.trapVectors.nmi ∧ tfr = s.tfr ||| 0x8000 ∧
            waiting = (s.pending.erase (.classB trap)).erase .nmi ++ [.classB trap]) →
        entry (step s)
          { s with seqCount := 0, extSfr := .standard, extData := .none, tfr := tfr, pending := waiting } number s.ip))

/-- An interrupt is acceptable only outside a sequence, with IEN set and a level above ILVL; the class B trap of the
instruction at IP comes before it. Where neither an NMI nor a class B trap that can be entered is pending, the first
acceptable request is the one served. An accepted one leaves the queue, pushes PSW, CSP (cleared) if SGTDIS = 0 and the
address of the next instruction, sets ILVL to its level and no other bit of PSW, and goes to 4 times its number; nothing else
changes (60_exceptions.md R421, R430, R433; the acceptance and the level are PRESUMED, log 17; the order is log 43; SGTDIS as
for TRAP is D17, log 29; the stack is D3, log 25). -/
def Obligations.InterruptEntry : Prop :=
  ∀ (s : State) number level,
    (acceptable s (.interrupt number level) = true ↔
      s.seqCount = 0 ∧ s.interruptsEnabled = true ∧ s.level.toNat < level.toNat) ∧
    (∀ before after, s.pending = before ++ .interrupt number level :: after → (∀ q ∈ before, acceptable s q = false) →
      acceptable s (.interrupt number level) = true → .nmi ∉ s.pending → (∀ trap, .classB trap ∉ s.pending) →
      nextRequest s = some (.interrupt number level)) ∧
    (s.cfg.hwTrapEntry = false → ∀ trap, trapAhead s = some trap ↔ instructionStep s = .fault (.hardwareTrap trap)) ∧
    (s.runState = .running → resetRequested s = false → nextRequest s = some (.interrupt number level) →
      (trapAhead s ≠ none → step s = instructionStep s) ∧
      (trapAhead s = none → ∀ rest, rest = { s with pending := s.pending.erase (.interrupt number level) } →
      let entered := fun (t : State) =>
        t.ip = BitVec.ofNat 16 (4 * number.toNat) ∧ t.level = level ∧ t.flags = s.flags ∧
          t.psw.extractLsb' 0 12 = s.psw.extractLsb' 0 12
      (s.segmentationDisabled = false → roomBelow s 3 → Completes (step s) (fun t => entered t ∧
        t = { (({ rest with sp := s.sp - 6 }.storeWord (stackBelow s 1) (s.readSfr .psw)).storeWord (stackBelow s 2)
          (s.csp.setWidth 16)).storeWord (stackBelow s 3) s.ip with csp := 0, ip := t.ip, psw := t.psw })) ∧
      (s.segmentationDisabled = true → roomBelow s 2 → Completes (step s) (fun t => entered t ∧
        t = { ({ rest with sp := s.sp - 4 }.storeWord (stackBelow s 1) (s.readSfr .psw)).storeWord (stackBelow s 2) s.ip with
              ip := t.ip, psw := t.psw }))))

/-- Outside a sequence the NMI is served before any other request, whatever IEN and ILVL are: TFR bit 15 is set, and with
HW_TRAP_ENTRY the flag of the class B trap of the instruction at IP beside it; the entry is that of its trap number at level
15, with every other bit of PSW kept. A PEC request is acceptable outside a sequence, and the first acceptable request is the
one served where neither an NMI nor a class B trap that can be entered is pending. It moves one word or byte between memory
locations and changes no register (60_exceptions.md R430, R431, R433; PRESUMED, log 17 and log 43; SGTDIS as for TRAP is D17,
log 29; the stack is D3, log 25). -/
def Obligations.NmiAndPecService : Prop :=
  ∀ (s : State), s.runState = .running → resetRequested s = false →
    (s.seqCount = 0 → .nmi ∈ s.pending → nextRequest s = some .nmi ∧
      ∀ tfr, (s.cfg.hwTrapEntry = true ∧ (∃ trap, trapAhead s = some trap ∧ tfr = s.tfr ||| trapFlag trap ||| 0x8000)) ∨
          ((s.cfg.hwTrapEntry = false ∨ trapAhead s = none) ∧ tfr = s.tfr ||| 0x8000) →
      ∀ rest, rest = { s with tfr := tfr, pending := s.pending.erase .nmi } →
      let entered := fun (t : State) =>
        t.ip = BitVec.ofNat 16 (4 * s.cfg.trapVectors.nmi.toNat) ∧ t.level = 15 ∧ t.flags = s.flags ∧
          t.psw.extractLsb' 0 12 = s.psw.extractLsb' 0 12
      (s.segmentationDisabled = false → roomBelow s 3 → Completes (step s) (fun t => entered t ∧
        t = { (({ rest with sp := s.sp - 6 }.storeWord (stackBelow s 1) (s.readSfr .psw)).storeWord (stackBelow s 2)
          (s.csp.setWidth 16)).storeWord (stackBelow s 3) s.ip with csp := 0, ip := t.ip, psw := t.psw })) ∧
      (s.segmentationDisabled = true → roomBelow s 2 → Completes (step s) (fun t => entered t ∧
        t = { ({ rest with sp := s.sp - 4 }.storeWord (stackBelow s 1) (s.readSfr .psw)).storeWord (stackBelow s 2) s.ip with
              ip := t.ip, psw := t.psw }))) ∧
    (∀ src dst r, r = .pecWord src dst ∨ r = .pecByte src dst →
      (acceptable s r = true ↔ s.seqCount = 0) ∧
      (∀ before after, s.pending = before ++ r :: after → (∀ q ∈ before, acceptable s q = false) → s.seqCount = 0 →
        .nmi ∉ s.pending → (∀ trap, .classB trap ∈ s.pending → s.level = 15) → nextRequest s = some r)) ∧
    (∀ (src dst : BitVec 24) a d, a = src.toNat % 2 ^ (if s.cfg.variant = .c167 then 24 else 18) →
      d = dst.toNat % 2 ^ (if s.cfg.variant = .c167 then 24 else 18) → trapAhead s = none →
      (nextRequest s = some (.pecWord src dst) → canReadW s a → d % 2 = 0 → isPlainWord s d = true → step s =
        .next { s.storeWord d (s.wordAt a) with pending := s.pending.erase (.pecWord src dst) }) ∧
      (nextRequest s = some (.pecByte src dst) → canReadB s a → isPlain s d = true → step s =
        .next { s.storeByte d (s.byteAt a) with pending := s.pending.erase (.pecByte src dst) }))

/-- An external reset, or a watchdog overflow while the watchdog is enabled and the part not powered down, resets the machine
in the next step, as SRST does; a disabled watchdog does nothing (60_exceptions.md R450, 70_reset_and_hazards.md R470; the
inputs are log 18 and log 19). -/
def Obligations.ResetRequests : Prop :=
  ∀ (s : State),
    (s.extReset = true ∨ (s.wdtOverflow = true ∧ s.wdtEnabled = true ∧ s.runState ≠ .powerDown) → step s = exec .srst s) ∧
    (s.extReset = false → s.wdtEnabled = false → s.runState = .running → step s = runningStep s)

/-- An address that nothing is mapped to cannot be read or written, ROM cannot be written, and CP cannot take an odd value or
one above FFE0H: the access is refused by name and stores nothing; a word access is refused for either of its bytes, since it
is an access to both (R70) and the map is asked for each (log 5); where neither refuses it, what the even byte's address names
decides, which is the model's choice for bytes of regions of different kinds (log 51) (20_memory.md R62, R70, R106, R108;
92_eei_decisions.md D4, log 14). Every store, to memory or to a register, marks its bytes; the update of the flags, a reset
and MUL, which writes MD by its effect, mark nothing; the fetch of a marked byte is refused (R103, 70_reset_and_hazards.md
R489, D11, log 15). -/
def Obligations.RefusedAccesses : Prop :=
  ∀ (s : State) pa,
    (∀ r, place s.cfg pa = .absent r → memReadB s pa = .error (.refuse r) ∧
      (∀ v, memWriteB s pa v = .error (.refuse r)) ∧
      (pa % 2 = 0 → memReadW s pa = .error (.refuse r) ∧ ∀ v, memWriteW s pa v = .error (.refuse r))) ∧
    (∀ r, pa % 2 = 0 → place s.cfg (pa + 1) = .absent r →
      (accessible s.cfg pa = true → memReadW s pa = .error (.refuse r)) ∧
      (∀ v, takesWrite s.cfg pa v = true → memWriteW s pa v = .error (.refuse r))) ∧
    (place s.cfg pa = .rom → (∀ v, memWriteB s pa v = .error (.refuse (.romWrite pa))) ∧ memReadB s pa = .ok (s.memByte pa) ∧
      (pa % 2 = 0 → (accessible s.cfg (pa + 1) = true → memReadW s pa = .ok (s.memWord pa)) ∧
        ∀ v, memWriteW s pa v = .error (.refuse (.romWrite pa)))) ∧
    (pa % 2 = 0 → place s.cfg (pa + 1) = .rom → ∀ v, takesWrite s.cfg pa v = true →
      memWriteW s pa v = .error (.refuse (.romWrite (pa + 1)))) ∧
    (place s.cfg pa = .sfr .cp → pa % 2 = 0 → ∀ v : Word,
      (v.toNat % 2 = 1 ∨ 0xFFE0 < v.toNat → memWriteW s pa v = .error (.refuse (.contextPointer v))) ∧
      (v.toNat % 2 = 0 → v.toNat ≤ 0xFFE0 → takesWrite s.cfg (pa + 1) v = true →
        memWriteW s pa v = .ok { s.markWord pa with cp := v })) ∧
    (∀ v t, memWriteW s pa v = .ok t → ∀ a, a ∈ t.stored ↔ a = pa ∨ a = pa + 1 ∨ a ∈ s.stored) ∧
    (∀ v t, memWriteB s pa v = .ok t → pa ∈ t.stored ∧ ∀ a, a ∈ s.stored → a ∈ t.stored) ∧
    (∀ f n m, bankReady s → (s.setFlags f).stored = s.stored ∧ s.doReset.stored = s.stored ∧
      Completes (exec (.mul n m) s) (fun t => t.stored = s.stored)) ∧
    (∀ ip, s.fetchAddress ip = pa → pa ∈ s.stored ∨ pa + 1 ∈ s.stored →
      fetchWord s ip = .error (.refuse (.storedCode pa)))

/-- A fetch at an odd IP raises IllegalInstructionAccess before anything is decoded; an undefined first byte raises
UndefinedOpcode, and a protected first byte with other bytes than the required ones ProtectionFault; by default the run ends
there; under every setting the trap is raised with nothing changed, and with the address of the instruction itself, or the odd
target, as its return address, and `HardwareTrapEntry` says what then happens (60_exceptions.md R425, R427, R428, R433, R436).
That wrong bytes raise ProtectionFault is the spec's own reading, decision D7 (log 22); that the run ends is D8 (log 6); that
an undefined first byte traps whatever word follows it is log 49. -/
def Obligations.FetchTraps : Prop :=
  ∀ (s : State), resetRequested s = false → s.runState = .running → nextRequest s = none → ∀ trap,
    (s.ip.toNat % 2 = 1 ∧ trap = .illegalInstructionAccess s.ip) ∨
      (s.ip.toNat % 2 = 0 ∧ ∃ b0 b1, fetchWord s s.ip = .ok (b0, b1) ∧ undefinedFirst s.cfg.variant b0 = true ∧
        trap = .undefinedOpcode b0) ∨
      (s.ip.toNat % 2 = 0 ∧ ∃ b0 b1 b2 b3, fetchBytes s = .ok [b0, b1, b2, b3] ∧ b0 ∈ protectedOpcodes ∧
        ¬(b1 = ~~~b0 ∧ b2 = b0 ∧ b3 = b0) ∧ trap = .protectionFault b0) →
    step s = raiseTrap s trap s.ip ∧ (s.cfg.hwTrapEntry = false → step s = .fault (.hardwareTrap trap))

/-- The decoder calls a first byte undefined exactly for the twenty values of 30_encoding.md R150 and, on the SAB 8XC166
group, also D1H, D7H, DCH (R151); every other first byte is that of some instruction that decodes. Bytes that decode are the
encoding of the instruction, so that bytes which violate a fixed bit are refused (R152, R153): only the last byte of a byte
instruction `reg, #data8` is not significant (R124; log 21). That the three bytes are undefined opcodes on that group is the
spec's decision D26 (log 23). -/
def Obligations.UndefinedOpcodesAreExactlyThese : Prop :=
  (∀ v b0 b1 rest, decode v (b0 :: b1 :: rest) = .error .undefinedOpcode ↔
    (b0 ∈ [0x3B#8, 0x44#8, 0x45#8, 0x83#8, 0x85#8, 0x8B#8, 0x8C#8, 0x93#8, 0x95#8, 0xA3#8, 0xB3#8, 0xC1#8, 0xC3#8, 0xC7#8,
        0xD3#8, 0xE3#8, 0xE5#8, 0xF5#8, 0xF8#8, 0xF9#8] ∨
      (v = .sab8xc166 ∧ b0 ∈ [0xD1#8, 0xD7#8, 0xDC#8]))) ∧
  (∀ v b0, undefinedFirst v b0 = false → ∃ b1 b2 b3 i rest, decode v [b0, b1, b2, b3] = .ok (i, rest)) ∧
  (∀ v bytes i rest, decode v bytes = .ok (i, rest) → WellFormed v i ∧
    (bytes = encode i ++ rest ∨
      ∃ b0 reg data x, b0 ∈ [0x07#8, 0x17#8, 0x27#8, 0x37#8, 0x47#8, 0x57#8, 0x67#8, 0x77#8, 0xE7#8] ∧
        encode i = [b0, reg, data, 0x00#8] ∧ bytes = b0 :: reg :: data :: x :: rest))

/-- When the bytes at IP decode to a well-formed instruction and nothing else is served, the step is exec of that instruction,
and what follows it is the counting of a sequence (30_encoding.md R122, 47_system_control.md R399). -/
def Obligations.StepRunsTheDecodedInstruction : Prop :=
  ∀ (s : State) i bytes rest, resetRequested s = false → s.runState = .running → nextRequest s = none →
    s.ip.toNat % 2 = 0 → fetchBytes s = .ok bytes → decode s.cfg.variant bytes = .ok (i, rest) →
    WellFormed s.cfg.variant i → step s = afterInstruction i (exec i s)

/-- Words written out from the encodings of spec/ decode to the instructions they stand for (30_encoding.md R121, R124, R125,
R132, R133). CC 01, whose second byte violates a fixed bit of NOP, is no instruction: that it is refused by name is the
model's reading of R152 and D6 (log 21). -/
def Obligations.WordsDecodeAsEncoded : Prop :=
  decode .c167 [0x00, 0x12] = .ok (.addRwRw 1 2, []) ∧
  decode .c167 [0x08, 0x1A] = .ok (.addRwInd 1 2, []) ∧
  decode .c167 [0x29, 0x2F] = .ok (.subbRbIndInc 2 3, []) ∧
  decode .c167 [0xE6, 0xF3, 0x34, 0x12] = .ok (.movRegData16 0xF3 0x1234, []) ∧
  decode .c167 [0xB8, 0x12] = .ok (.movIndRw 2 1, []) ∧
  decode .c167 [0xD0, 0x01] = .ok (.movbsRwRb 1 0, []) ∧
  decode .c167 [0x4A, 0xF1, 0xF0, 0xF0] = .ok (.bmov 0xF0 0 0xF1 0xF, []) ∧
  decode .c167 [0x1A, 0xF2, 0x50, 0xF0] = .ok (.bfldh 0xF2 0xF0 0x50, []) ∧
  decode .c167 [0x0A, 0xF2, 0x0F, 0x05] = .ok (.bfldl 0xF2 0x0F 0x05, []) ∧
  decode .c167 [0x3D, 0xFC] = .ok (.jmpr 3 0xFC, []) ∧
  decode .c167 [0x9B, 0x20] = .ok (.trap 0x10, []) ∧
  decode .c167 [0xD7, 0x50, 0x23, 0x01] = .ok (.extpPag 0x123 1, []) ∧
  decode .c167 [0xFB, 0x88, 0xCC] = .ok (.reti, [0xCC]) ∧
  decode .c167 [0xCC, 0x01] = .error .noSuchEncoding

/-- Decoding what the encoder writes gives back every well-formed instruction with every operand, whatever bytes follow
(30_encoding.md R121, R122, R124). -/
def Obligations.DecodeEncodeAgree : Prop :=
  ∀ v i rest, WellFormed v i → decode v (encode i ++ rest) = .ok (i, rest)

/-- Every step that gives a next state keeps the invariant: canonical memory, a sequence counter in 0..4 with the standard
mode at 0, a legal CP, CSP within SEG_BITS bits, PSW's reserved bits 0 (10_state.md R30, R33, R39, R46, R48; legality of CP is
D4, the reserved bits are log 30). -/
def Obligations.StepKeepsInvariant : Prop :=
  ∀ (s : State) t, StateInv s → step s = .next t → StateInv t ∧ t.cfg = s.cfg

/-- The state after reset has the invariant that every step keeps; the values that the model chose there are log 3 and log
4. -/
def Obligations.ResetHasInvariant : Prop :=
  StateInv State.reset
end

