-- ==== Sys2Proof/Laws/Decode.lean ====
section
/-! SUPPORT. The fields of bytes and words that the encoder put together are the fields that the decoder takes apart. -/

namespace Sys2Proof

/-- The low part of two fields side by side. -/
theorem extract_low {v w : Nat} (x : BitVec v) (y : BitVec w) : (x ++ y).extractLsb' 0 w = y := by
  apply BitVec.eq_of_getLsbD_eq
  intro i hi'
  simp [BitVec.getLsbD_append, hi']

/-- The high part of two fields side by side. -/
theorem extract_high {v w : Nat} (x : BitVec v) (y : BitVec w) : (x ++ y).extractLsb' w v = x := by
  apply BitVec.eq_of_getLsbD_eq
  intro i hi'
  simp [BitVec.getLsbD_append, hi', show ¬w + i < w by omega]

@[simp] theorem hi_append (n m : Nib) : hi (n ++ m) = n := extract_high n m

@[simp] theorem lo_append (n m : Nib) : lo (n ++ m) = m := extract_low n m

/-- A field of the high nibble of a byte. -/
theorem extract_nibble {k l : Nat} (x m : Nib) : (x ++ m : Byte).extractLsb' (4 + k) l = x.extractLsb' k l := by
  apply BitVec.eq_of_getLsbD_eq
  intro i hi'
  rw [BitVec.getLsbD_extractLsb', BitVec.getLsbD_extractLsb', BitVec.getLsbD_append]
  simp [show ¬4 + k + i < 4 by omega, show 4 + k + i - 4 = k + i by omega]

/-- A field of the low nibble of a byte. -/
theorem extract_low_nibble {k l : Nat} (n x : Nib) (h : k + l ≤ 4) :
    (n ++ x : Byte).extractLsb' k l = x.extractLsb' k l := by
  apply BitVec.eq_of_getLsbD_eq
  intro i hi'
  rw [BitVec.getLsbD_extractLsb', BitVec.getLsbD_extractLsb', BitVec.getLsbD_append]
  simp [show k + i < 4 by omega]

/-- A word taken apart into bytes and put together again. -/
@[simp] theorem high_append_low (w : Word) : (highByte w ++ lowByte w : Word) = w := by
  apply BitVec.eq_of_getLsbD_eq
  intro i hi'
  rw [BitVec.getLsbD_append]
  simp only [highByte, lowByte, BitVec.getLsbD_extractLsb', Nat.zero_add]
  by_cases h : i < 8
  · simp [h]
  · simp [h, show i - 8 < 8 by omega, show 8 + (i - 8) = i by omega]

/-- The length of an instruction by the low nibble of its first byte (30_encoding.md R122). -/
theorem lengthOf_append (n m : Nib) :
    lengthOf (n ++ m) = match m.toNat with
      | 0x2 | 0x3 | 0x4 | 0x5 | 0x6 | 0x7 | 0xA => 4
      | _ => 2 :=
  congrArg (fun x : Nib => match x.toNat with
      | 0x2 | 0x3 | 0x4 | 0x5 | 0x6 | 0x7 | 0xA => 4
      | _ => 2) (lo_append n m)

end Sys2Proof
end

