-- ==== Sys2Proof/Laws/State.lean ====
section
/-! SUPPORT. One lemma per field of State per update: what each named update leaves and what it sets. -/

namespace Sys2Proof.Machine

/-! ### setFlags -/

@[simp] theorem setFlags_ip (s : State) (f : Flags) : (s.setFlags f).ip = s.ip := rfl
@[simp] theorem setFlags_csp (s : State) (f : Flags) : (s.setFlags f).csp = s.csp := rfl
@[simp] theorem setFlags_psw (s : State) (f : Flags) : (s.setFlags f).psw = pswWithFlags s.psw f := rfl
@[simp] theorem setFlags_sp (s : State) (f : Flags) : (s.setFlags f).sp = s.sp := rfl
@[simp] theorem setFlags_cp (s : State) (f : Flags) : (s.setFlags f).cp = s.cp := rfl
@[simp] theorem setFlags_dpp0 (s : State) (f : Flags) : (s.setFlags f).dpp0 = s.dpp0 := rfl
@[simp] theorem setFlags_dpp1 (s : State) (f : Flags) : (s.setFlags f).dpp1 = s.dpp1 := rfl
@[simp] theorem setFlags_dpp2 (s : State) (f : Flags) : (s.setFlags f).dpp2 = s.dpp2 := rfl
@[simp] theorem setFlags_dpp3 (s : State) (f : Flags) : (s.setFlags f).dpp3 = s.dpp3 := rfl
@[simp] theorem setFlags_mdl (s : State) (f : Flags) : (s.setFlags f).mdl = s.mdl := rfl
@[simp] theorem setFlags_mdh (s : State) (f : Flags) : (s.setFlags f).mdh = s.mdh := rfl
@[simp] theorem setFlags_mdc (s : State) (f : Flags) : (s.setFlags f).mdc = s.mdc := rfl
@[simp] theorem setFlags_syscon (s : State) (f : Flags) : (s.setFlags f).syscon = s.syscon := rfl
@[simp] theorem setFlags_stkov (s : State) (f : Flags) : (s.setFlags f).stkov = s.stkov := rfl
@[simp] theorem setFlags_stkun (s : State) (f : Flags) : (s.setFlags f).stkun = s.stkun := rfl
@[simp] theorem setFlags_tfr (s : State) (f : Flags) : (s.setFlags f).tfr = s.tfr := rfl
@[simp] theorem setFlags_seqCount (s : State) (f : Flags) : (s.setFlags f).seqCount = s.seqCount := rfl
@[simp] theorem setFlags_extSfr (s : State) (f : Flags) : (s.setFlags f).extSfr = s.extSfr := rfl
@[simp] theorem setFlags_extData (s : State) (f : Flags) : (s.setFlags f).extData = s.extData := rfl
@[simp] theorem setFlags_wdt (s : State) (f : Flags) : (s.setFlags f).wdt = s.wdt := rfl
@[simp] theorem setFlags_wdtEnabled (s : State) (f : Flags) : (s.setFlags f).wdtEnabled = s.wdtEnabled := rfl
@[simp] theorem setFlags_wdtLocked (s : State) (f : Flags) : (s.setFlags f).wdtLocked = s.wdtLocked := rfl
@[simp] theorem setFlags_rstoutLow (s : State) (f : Flags) : (s.setFlags f).rstoutLow = s.rstoutLow := rfl
@[simp] theorem setFlags_runState (s : State) (f : Flags) : (s.setFlags f).runState = s.runState := rfl
@[simp] theorem setFlags_mem (s : State) (f : Flags) : (s.setFlags f).mem = s.mem := rfl
@[simp] theorem setFlags_stored (s : State) (f : Flags) : (s.setFlags f).stored = s.stored := rfl
@[simp] theorem setFlags_pending (s : State) (f : Flags) : (s.setFlags f).pending = s.pending := rfl
@[simp] theorem setFlags_nmiLow (s : State) (f : Flags) : (s.setFlags f).nmiLow = s.nmiLow := rfl
@[simp] theorem setFlags_wdtOverflow (s : State) (f : Flags) : (s.setFlags f).wdtOverflow = s.wdtOverflow := rfl
@[simp] theorem setFlags_extReset (s : State) (f : Flags) : (s.setFlags f).extReset = s.extReset := rfl
@[simp] theorem setFlags_freeCount (s : State) (f : Flags) : (s.setFlags f).freeCount = s.freeCount := rfl
@[simp] theorem setFlags_cfg (s : State) (f : Flags) : (s.setFlags f).cfg = s.cfg := rfl

/-! ### goto -/

@[simp] theorem goto_ip (s : State) (target : Word) : (s.goto target).ip = target := rfl
@[simp] theorem goto_csp (s : State) (target : Word) : (s.goto target).csp = s.csp := rfl
@[simp] theorem goto_psw (s : State) (target : Word) : (s.goto target).psw = s.psw := rfl
@[simp] theorem goto_sp (s : State) (target : Word) : (s.goto target).sp = s.sp := rfl
@[simp] theorem goto_cp (s : State) (target : Word) : (s.goto target).cp = s.cp := rfl
@[simp] theorem goto_dpp0 (s : State) (target : Word) : (s.goto target).dpp0 = s.dpp0 := rfl
@[simp] theorem goto_dpp1 (s : State) (target : Word) : (s.goto target).dpp1 = s.dpp1 := rfl
@[simp] theorem goto_dpp2 (s : State) (target : Word) : (s.goto target).dpp2 = s.dpp2 := rfl
@[simp] theorem goto_dpp3 (s : State) (target : Word) : (s.goto target).dpp3 = s.dpp3 := rfl
@[simp] theorem goto_mdl (s : State) (target : Word) : (s.goto target).mdl = s.mdl := rfl
@[simp] theorem goto_mdh (s : State) (target : Word) : (s.goto target).mdh = s.mdh := rfl
@[simp] theorem goto_mdc (s : State) (target : Word) : (s.goto target).mdc = s.mdc := rfl
@[simp] theorem goto_syscon (s : State) (target : Word) : (s.goto target).syscon = s.syscon := rfl
@[simp] theorem goto_stkov (s : State) (target : Word) : (s.goto target).stkov = s.stkov := rfl
@[simp] theorem goto_stkun (s : State) (target : Word) : (s.goto target).stkun = s.stkun := rfl
@[simp] theorem goto_tfr (s : State) (target : Word) : (s.goto target).tfr = s.tfr := rfl
@[simp] theorem goto_seqCount (s : State) (target : Word) : (s.goto target).seqCount = s.seqCount := rfl
@[simp] theorem goto_extSfr (s : State) (target : Word) : (s.goto target).extSfr = s.extSfr := rfl
@[simp] theorem goto_extData (s : State) (target : Word) : (s.goto target).extData = s.extData := rfl
@[simp] theorem goto_wdt (s : State) (target : Word) : (s.goto target).wdt = s.wdt := rfl
@[simp] theorem goto_wdtEnabled (s : State) (target : Word) : (s.goto target).wdtEnabled = s.wdtEnabled := rfl
@[simp] theorem goto_wdtLocked (s : State) (target : Word) : (s.goto target).wdtLocked = s.wdtLocked := rfl
@[simp] theorem goto_rstoutLow (s : State) (target : Word) : (s.goto target).rstoutLow = s.rstoutLow := rfl
@[simp] theorem goto_runState (s : State) (target : Word) : (s.goto target).runState = s.runState := rfl
@[simp] theorem goto_mem (s : State) (target : Word) : (s.goto target).mem = s.mem := rfl
@[simp] theorem goto_stored (s : State) (target : Word) : (s.goto target).stored = s.stored := rfl
@[simp] theorem goto_pending (s : State) (target : Word) : (s.goto target).pending = s.pending := rfl
@[simp] theorem goto_nmiLow (s : State) (target : Word) : (s.goto target).nmiLow = s.nmiLow := rfl
@[simp] theorem goto_wdtOverflow (s : State) (target : Word) : (s.goto target).wdtOverflow = s.wdtOverflow := rfl
@[simp] theorem goto_extReset (s : State) (target : Word) : (s.goto target).extReset = s.extReset := rfl
@[simp] theorem goto_freeCount (s : State) (target : Word) : (s.goto target).freeCount = s.freeCount := rfl
@[simp] theorem goto_cfg (s : State) (target : Word) : (s.goto target).cfg = s.cfg := rfl

/-! ### storeByte -/

@[simp] theorem storeByte_ip (s : State) (pa : Nat) (v : Byte) : (s.storeByte pa v).ip = s.ip := rfl
@[simp] theorem storeByte_csp (s : State) (pa : Nat) (v : Byte) : (s.storeByte pa v).csp = s.csp := rfl
@[simp] theorem storeByte_psw (s : State) (pa : Nat) (v : Byte) : (s.storeByte pa v).psw = s.psw := rfl
@[simp] theorem storeByte_sp (s : State) (pa : Nat) (v : Byte) : (s.storeByte pa v).sp = s.sp := rfl
@[simp] theorem storeByte_cp (s : State) (pa : Nat) (v : Byte) : (s.storeByte pa v).cp = s.cp := rfl
@[simp] theorem storeByte_dpp0 (s : State) (pa : Nat) (v : Byte) : (s.storeByte pa v).dpp0 = s.dpp0 := rfl
@[simp] theorem storeByte_dpp1 (s : State) (pa : Nat) (v : Byte) : (s.storeByte pa v).dpp1 = s.dpp1 := rfl
@[simp] theorem storeByte_dpp2 (s : State) (pa : Nat) (v : Byte) : (s.storeByte pa v).dpp2 = s.dpp2 := rfl
@[simp] theorem storeByte_dpp3 (s : State) (pa : Nat) (v : Byte) : (s.storeByte pa v).dpp3 = s.dpp3 := rfl
@[simp] theorem storeByte_mdl (s : State) (pa : Nat) (v : Byte) : (s.storeByte pa v).mdl = s.mdl := rfl
@[simp] theorem storeByte_mdh (s : State) (pa : Nat) (v : Byte) : (s.storeByte pa v).mdh = s.mdh := rfl
@[simp] theorem storeByte_mdc (s : State) (pa : Nat) (v : Byte) : (s.storeByte pa v).mdc = s.mdc := rfl
@[simp] theorem storeByte_syscon (s : State) (pa : Nat) (v : Byte) : (s.storeByte pa v).syscon = s.syscon := rfl
@[simp] theorem storeByte_stkov (s : State) (pa : Nat) (v : Byte) : (s.storeByte pa v).stkov = s.stkov := rfl
@[simp] theorem storeByte_stkun (s : State) (pa : Nat) (v : Byte) : (s.storeByte pa v).stkun = s.stkun := rfl
@[simp] theorem storeByte_tfr (s : State) (pa : Nat) (v : Byte) : (s.storeByte pa v).tfr = s.tfr := rfl
@[simp] theorem storeByte_seqCount (s : State) (pa : Nat) (v : Byte) : (s.storeByte pa v).seqCount = s.seqCount := rfl
@[simp] theorem storeByte_extSfr (s : State) (pa : Nat) (v : Byte) : (s.storeByte pa v).extSfr = s.extSfr := rfl
@[simp] theorem storeByte_extData (s : State) (pa : Nat) (v : Byte) : (s.storeByte pa v).extData = s.extData := rfl
@[simp] theorem storeByte_wdt (s : State) (pa : Nat) (v : Byte) : (s.storeByte pa v).wdt = s.wdt := rfl
@[simp] theorem storeByte_wdtEnabled (s : State) (pa : Nat) (v : Byte) : (s.storeByte pa v).wdtEnabled = s.wdtEnabled := rfl
@[simp] theorem storeByte_wdtLocked (s : State) (pa : Nat) (v : Byte) : (s.storeByte pa v).wdtLocked = s.wdtLocked := rfl
@[simp] theorem storeByte_rstoutLow (s : State) (pa : Nat) (v : Byte) : (s.storeByte pa v).rstoutLow = s.rstoutLow := rfl
@[simp] theorem storeByte_runState (s : State) (pa : Nat) (v : Byte) : (s.storeByte pa v).runState = s.runState := rfl
@[simp] theorem storeByte_mem (s : State) (pa : Nat) (v : Byte) : (s.storeByte pa v).mem = s.mem.write s.cfg pa v := rfl
@[simp] theorem storeByte_stored (s : State) (pa : Nat) (v : Byte) : (s.storeByte pa v).stored = markStored s.stored pa := rfl
@[simp] theorem storeByte_pending (s : State) (pa : Nat) (v : Byte) : (s.storeByte pa v).pending = s.pending := rfl
@[simp] theorem storeByte_nmiLow (s : State) (pa : Nat) (v : Byte) : (s.storeByte pa v).nmiLow = s.nmiLow := rfl
@[simp] theorem storeByte_wdtOverflow (s : State) (pa : Nat) (v : Byte) : (s.storeByte pa v).wdtOverflow = s.wdtOverflow := rfl
@[simp] theorem storeByte_extReset (s : State) (pa : Nat) (v : Byte) : (s.storeByte pa v).extReset = s.extReset := rfl
@[simp] theorem storeByte_freeCount (s : State) (pa : Nat) (v : Byte) : (s.storeByte pa v).freeCount = s.freeCount := rfl
@[simp] theorem storeByte_cfg (s : State) (pa : Nat) (v : Byte) : (s.storeByte pa v).cfg = s.cfg := rfl

/-! ### storeWord -/

@[simp] theorem storeWord_ip (s : State) (pa : Nat) (v : Word) : (s.storeWord pa v).ip = s.ip := rfl
@[simp] theorem storeWord_csp (s : State) (pa : Nat) (v : Word) : (s.storeWord pa v).csp = s.csp := rfl
@[simp] theorem storeWord_psw (s : State) (pa : Nat) (v : Word) : (s.storeWord pa v).psw = s.psw := rfl
@[simp] theorem storeWord_sp (s : State) (pa : Nat) (v : Word) : (s.storeWord pa v).sp = s.sp := rfl
@[simp] theorem storeWord_cp (s : State) (pa : Nat) (v : Word) : (s.storeWord pa v).cp = s.cp := rfl
@[simp] theorem storeWord_dpp0 (s : State) (pa : Nat) (v : Word) : (s.storeWord pa v).dpp0 = s.dpp0 := rfl
@[simp] theorem storeWord_dpp1 (s : State) (pa : Nat) (v : Word) : (s.storeWord pa v).dpp1 = s.dpp1 := rfl
@[simp] theorem storeWord_dpp2 (s : State) (pa : Nat) (v : Word) : (s.storeWord pa v).dpp2 = s.dpp2 := rfl
@[simp] theorem storeWord_dpp3 (s : State) (pa : Nat) (v : Word) : (s.storeWord pa v).dpp3 = s.dpp3 := rfl
@[simp] theorem storeWord_mdl (s : State) (pa : Nat) (v : Word) : (s.storeWord pa v).mdl = s.mdl := rfl
@[simp] theorem storeWord_mdh (s : State) (pa : Nat) (v : Word) : (s.storeWord pa v).mdh = s.mdh := rfl
@[simp] theorem storeWord_mdc (s : State) (pa : Nat) (v : Word) : (s.storeWord pa v).mdc = s.mdc := rfl
@[simp] theorem storeWord_syscon (s : State) (pa : Nat) (v : Word) : (s.storeWord pa v).syscon = s.syscon := rfl
@[simp] theorem storeWord_stkov (s : State) (pa : Nat) (v : Word) : (s.storeWord pa v).stkov = s.stkov := rfl
@[simp] theorem storeWord_stkun (s : State) (pa : Nat) (v : Word) : (s.storeWord pa v).stkun = s.stkun := rfl
@[simp] theorem storeWord_tfr (s : State) (pa : Nat) (v : Word) : (s.storeWord pa v).tfr = s.tfr := rfl
@[simp] theorem storeWord_seqCount (s : State) (pa : Nat) (v : Word) : (s.storeWord pa v).seqCount = s.seqCount := rfl
@[simp] theorem storeWord_extSfr (s : State) (pa : Nat) (v : Word) : (s.storeWord pa v).extSfr = s.extSfr := rfl
@[simp] theorem storeWord_extData (s : State) (pa : Nat) (v : Word) : (s.storeWord pa v).extData = s.extData := rfl
@[simp] theorem storeWord_wdt (s : State) (pa : Nat) (v : Word) : (s.storeWord pa v).wdt = s.wdt := rfl
@[simp] theorem storeWord_wdtEnabled (s : State) (pa : Nat) (v : Word) : (s.storeWord pa v).wdtEnabled = s.wdtEnabled := rfl
@[simp] theorem storeWord_wdtLocked (s : State) (pa : Nat) (v : Word) : (s.storeWord pa v).wdtLocked = s.wdtLocked := rfl
@[simp] theorem storeWord_rstoutLow (s : State) (pa : Nat) (v : Word) : (s.storeWord pa v).rstoutLow = s.rstoutLow := rfl
@[simp] theorem storeWord_runState (s : State) (pa : Nat) (v : Word) : (s.storeWord pa v).runState = s.runState := rfl
@[simp] theorem storeWord_mem (s : State) (pa : Nat) (v : Word) : (s.storeWord pa v).mem = s.mem.writeWord s.cfg pa v := rfl
@[simp] theorem storeWord_stored (s : State) (pa : Nat) (v : Word) : (s.storeWord pa v).stored = markStored (markStored s.stored pa) (pa + 1) := rfl
@[simp] theorem storeWord_pending (s : State) (pa : Nat) (v : Word) : (s.storeWord pa v).pending = s.pending := rfl
@[simp] theorem storeWord_nmiLow (s : State) (pa : Nat) (v : Word) : (s.storeWord pa v).nmiLow = s.nmiLow := rfl
@[simp] theorem storeWord_wdtOverflow (s : State) (pa : Nat) (v : Word) : (s.storeWord pa v).wdtOverflow = s.wdtOverflow := rfl
@[simp] theorem storeWord_extReset (s : State) (pa : Nat) (v : Word) : (s.storeWord pa v).extReset = s.extReset := rfl
@[simp] theorem storeWord_freeCount (s : State) (pa : Nat) (v : Word) : (s.storeWord pa v).freeCount = s.freeCount := rfl
@[simp] theorem storeWord_cfg (s : State) (pa : Nat) (v : Word) : (s.storeWord pa v).cfg = s.cfg := rfl

/-! ### markWord -/

@[simp] theorem markWord_ip (s : State) (pa : Nat) : (s.markWord pa).ip = s.ip := rfl
@[simp] theorem markWord_csp (s : State) (pa : Nat) : (s.markWord pa).csp = s.csp := rfl
@[simp] theorem markWord_psw (s : State) (pa : Nat) : (s.markWord pa).psw = s.psw := rfl
@[simp] theorem markWord_sp (s : State) (pa : Nat) : (s.markWord pa).sp = s.sp := rfl
@[simp] theorem markWord_cp (s : State) (pa : Nat) : (s.markWord pa).cp = s.cp := rfl
@[simp] theorem markWord_dpp0 (s : State) (pa : Nat) : (s.markWord pa).dpp0 = s.dpp0 := rfl
@[simp] theorem markWord_dpp1 (s : State) (pa : Nat) : (s.markWord pa).dpp1 = s.dpp1 := rfl
@[simp] theorem markWord_dpp2 (s : State) (pa : Nat) : (s.markWord pa).dpp2 = s.dpp2 := rfl
@[simp] theorem markWord_dpp3 (s : State) (pa : Nat) : (s.markWord pa).dpp3 = s.dpp3 := rfl
@[simp] theorem markWord_mdl (s : State) (pa : Nat) : (s.markWord pa).mdl = s.mdl := rfl
@[simp] theorem markWord_mdh (s : State) (pa : Nat) : (s.markWord pa).mdh = s.mdh := rfl
@[simp] theorem markWord_mdc (s : State) (pa : Nat) : (s.markWord pa).mdc = s.mdc := rfl
@[simp] theorem markWord_syscon (s : State) (pa : Nat) : (s.markWord pa).syscon = s.syscon := rfl
@[simp] theorem markWord_stkov (s : State) (pa : Nat) : (s.markWord pa).stkov = s.stkov := rfl
@[simp] theorem markWord_stkun (s : State) (pa : Nat) : (s.markWord pa).stkun = s.stkun := rfl
@[simp] theorem markWord_tfr (s : State) (pa : Nat) : (s.markWord pa).tfr = s.tfr := rfl
@[simp] theorem markWord_seqCount (s : State) (pa : Nat) : (s.markWord pa).seqCount = s.seqCount := rfl
@[simp] theorem markWord_extSfr (s : State) (pa : Nat) : (s.markWord pa).extSfr = s.extSfr := rfl
@[simp] theorem markWord_extData (s : State) (pa : Nat) : (s.markWord pa).extData = s.extData := rfl
@[simp] theorem markWord_wdt (s : State) (pa : Nat) : (s.markWord pa).wdt = s.wdt := rfl
@[simp] theorem markWord_wdtEnabled (s : State) (pa : Nat) : (s.markWord pa).wdtEnabled = s.wdtEnabled := rfl
@[simp] theorem markWord_wdtLocked (s : State) (pa : Nat) : (s.markWord pa).wdtLocked = s.wdtLocked := rfl
@[simp] theorem markWord_rstoutLow (s : State) (pa : Nat) : (s.markWord pa).rstoutLow = s.rstoutLow := rfl
@[simp] theorem markWord_runState (s : State) (pa : Nat) : (s.markWord pa).runState = s.runState := rfl
@[simp] theorem markWord_mem (s : State) (pa : Nat) : (s.markWord pa).mem = s.mem := rfl
@[simp] theorem markWord_stored (s : State) (pa : Nat) : (s.markWord pa).stored = markStored (markStored s.stored pa) (pa + 1) := rfl
@[simp] theorem markWord_pending (s : State) (pa : Nat) : (s.markWord pa).pending = s.pending := rfl
@[simp] theorem markWord_nmiLow (s : State) (pa : Nat) : (s.markWord pa).nmiLow = s.nmiLow := rfl
@[simp] theorem markWord_wdtOverflow (s : State) (pa : Nat) : (s.markWord pa).wdtOverflow = s.wdtOverflow := rfl
@[simp] theorem markWord_extReset (s : State) (pa : Nat) : (s.markWord pa).extReset = s.extReset := rfl
@[simp] theorem markWord_freeCount (s : State) (pa : Nat) : (s.markWord pa).freeCount = s.freeCount := rfl
@[simp] theorem markWord_cfg (s : State) (pa : Nat) : (s.markWord pa).cfg = s.cfg := rfl

/-! ### endSequence -/

@[simp] theorem endSequence_ip (s : State) : (s.endSequence).ip = s.ip := rfl
@[simp] theorem endSequence_csp (s : State) : (s.endSequence).csp = s.csp := rfl
@[simp] theorem endSequence_psw (s : State) : (s.endSequence).psw = s.psw := rfl
@[simp] theorem endSequence_sp (s : State) : (s.endSequence).sp = s.sp := rfl
@[simp] theorem endSequence_cp (s : State) : (s.endSequence).cp = s.cp := rfl
@[simp] theorem endSequence_dpp0 (s : State) : (s.endSequence).dpp0 = s.dpp0 := rfl
@[simp] theorem endSequence_dpp1 (s : State) : (s.endSequence).dpp1 = s.dpp1 := rfl
@[simp] theorem endSequence_dpp2 (s : State) : (s.endSequence).dpp2 = s.dpp2 := rfl
@[simp] theorem endSequence_dpp3 (s : State) : (s.endSequence).dpp3 = s.dpp3 := rfl
@[simp] theorem endSequence_mdl (s : State) : (s.endSequence).mdl = s.mdl := rfl
@[simp] theorem endSequence_mdh (s : State) : (s.endSequence).mdh = s.mdh := rfl
@[simp] theorem endSequence_mdc (s : State) : (s.endSequence).mdc = s.mdc := rfl
@[simp] theorem endSequence_syscon (s : State) : (s.endSequence).syscon = s.syscon := rfl
@[simp] theorem endSequence_stkov (s : State) : (s.endSequence).stkov = s.stkov := rfl
@[simp] theorem endSequence_stkun (s : State) : (s.endSequence).stkun = s.stkun := rfl
@[simp] theorem endSequence_tfr (s : State) : (s.endSequence).tfr = s.tfr := rfl
@[simp] theorem endSequence_seqCount (s : State) : (s.endSequence).seqCount = 0 := rfl
@[simp] theorem endSequence_extSfr (s : State) : (s.endSequence).extSfr = .standard := rfl
@[simp] theorem endSequence_extData (s : State) : (s.endSequence).extData = .none := rfl
@[simp] theorem endSequence_wdt (s : State) : (s.endSequence).wdt = s.wdt := rfl
@[simp] theorem endSequence_wdtEnabled (s : State) : (s.endSequence).wdtEnabled = s.wdtEnabled := rfl
@[simp] theorem endSequence_wdtLocked (s : State) : (s.endSequence).wdtLocked = s.wdtLocked := rfl
@[simp] theorem endSequence_rstoutLow (s : State) : (s.endSequence).rstoutLow = s.rstoutLow := rfl
@[simp] theorem endSequence_runState (s : State) : (s.endSequence).runState = s.runState := rfl
@[simp] theorem endSequence_mem (s : State) : (s.endSequence).mem = s.mem := rfl
@[simp] theorem endSequence_stored (s : State) : (s.endSequence).stored = s.stored := rfl
@[simp] theorem endSequence_pending (s : State) : (s.endSequence).pending = s.pending := rfl
@[simp] theorem endSequence_nmiLow (s : State) : (s.endSequence).nmiLow = s.nmiLow := rfl
@[simp] theorem endSequence_wdtOverflow (s : State) : (s.endSequence).wdtOverflow = s.wdtOverflow := rfl
@[simp] theorem endSequence_extReset (s : State) : (s.endSequence).extReset = s.extReset := rfl
@[simp] theorem endSequence_freeCount (s : State) : (s.endSequence).freeCount = s.freeCount := rfl
@[simp] theorem endSequence_cfg (s : State) : (s.endSequence).cfg = s.cfg := rfl

/-! ### withoutClassB -/

@[simp] theorem withoutClassB_ip (s : State) : (s.withoutClassB).ip = s.ip := rfl
@[simp] theorem withoutClassB_csp (s : State) : (s.withoutClassB).csp = s.csp := rfl
@[simp] theorem withoutClassB_psw (s : State) : (s.withoutClassB).psw = s.psw := rfl
@[simp] theorem withoutClassB_sp (s : State) : (s.withoutClassB).sp = s.sp := rfl
@[simp] theorem withoutClassB_cp (s : State) : (s.withoutClassB).cp = s.cp := rfl
@[simp] theorem withoutClassB_dpp0 (s : State) : (s.withoutClassB).dpp0 = s.dpp0 := rfl
@[simp] theorem withoutClassB_dpp1 (s : State) : (s.withoutClassB).dpp1 = s.dpp1 := rfl
@[simp] theorem withoutClassB_dpp2 (s : State) : (s.withoutClassB).dpp2 = s.dpp2 := rfl
@[simp] theorem withoutClassB_dpp3 (s : State) : (s.withoutClassB).dpp3 = s.dpp3 := rfl
@[simp] theorem withoutClassB_mdl (s : State) : (s.withoutClassB).mdl = s.mdl := rfl
@[simp] theorem withoutClassB_mdh (s : State) : (s.withoutClassB).mdh = s.mdh := rfl
@[simp] theorem withoutClassB_mdc (s : State) : (s.withoutClassB).mdc = s.mdc := rfl
@[simp] theorem withoutClassB_syscon (s : State) : (s.withoutClassB).syscon = s.syscon := rfl
@[simp] theorem withoutClassB_stkov (s : State) : (s.withoutClassB).stkov = s.stkov := rfl
@[simp] theorem withoutClassB_stkun (s : State) : (s.withoutClassB).stkun = s.stkun := rfl
@[simp] theorem withoutClassB_tfr (s : State) : (s.withoutClassB).tfr = s.tfr := rfl
@[simp] theorem withoutClassB_seqCount (s : State) : (s.withoutClassB).seqCount = s.seqCount := rfl
@[simp] theorem withoutClassB_extSfr (s : State) : (s.withoutClassB).extSfr = s.extSfr := rfl
@[simp] theorem withoutClassB_extData (s : State) : (s.withoutClassB).extData = s.extData := rfl
@[simp] theorem withoutClassB_wdt (s : State) : (s.withoutClassB).wdt = s.wdt := rfl
@[simp] theorem withoutClassB_wdtEnabled (s : State) : (s.withoutClassB).wdtEnabled = s.wdtEnabled := rfl
@[simp] theorem withoutClassB_wdtLocked (s : State) : (s.withoutClassB).wdtLocked = s.wdtLocked := rfl
@[simp] theorem withoutClassB_rstoutLow (s : State) : (s.withoutClassB).rstoutLow = s.rstoutLow := rfl
@[simp] theorem withoutClassB_runState (s : State) : (s.withoutClassB).runState = s.runState := rfl
@[simp] theorem withoutClassB_mem (s : State) : (s.withoutClassB).mem = s.mem := rfl
@[simp] theorem withoutClassB_stored (s : State) : (s.withoutClassB).stored = s.stored := rfl
@[simp] theorem withoutClassB_pending (s : State) : (s.withoutClassB).pending = s.pending.filter (fun r => !r.isClassB) := rfl
@[simp] theorem withoutClassB_nmiLow (s : State) : (s.withoutClassB).nmiLow = s.nmiLow := rfl
@[simp] theorem withoutClassB_wdtOverflow (s : State) : (s.withoutClassB).wdtOverflow = s.wdtOverflow := rfl
@[simp] theorem withoutClassB_extReset (s : State) : (s.withoutClassB).extReset = s.extReset := rfl
@[simp] theorem withoutClassB_freeCount (s : State) : (s.withoutClassB).freeCount = s.freeCount := rfl
@[simp] theorem withoutClassB_cfg (s : State) : (s.withoutClassB).cfg = s.cfg := rfl

/-! ### drawWord -/

@[simp] theorem drawWord_ip (s : State) : (s.drawWord.2).ip = s.ip := rfl
@[simp] theorem drawWord_csp (s : State) : (s.drawWord.2).csp = s.csp := rfl
@[simp] theorem drawWord_psw (s : State) : (s.drawWord.2).psw = s.psw := rfl
@[simp] theorem drawWord_sp (s : State) : (s.drawWord.2).sp = s.sp := rfl
@[simp] theorem drawWord_cp (s : State) : (s.drawWord.2).cp = s.cp := rfl
@[simp] theorem drawWord_dpp0 (s : State) : (s.drawWord.2).dpp0 = s.dpp0 := rfl
@[simp] theorem drawWord_dpp1 (s : State) : (s.drawWord.2).dpp1 = s.dpp1 := rfl
@[simp] theorem drawWord_dpp2 (s : State) : (s.drawWord.2).dpp2 = s.dpp2 := rfl
@[simp] theorem drawWord_dpp3 (s : State) : (s.drawWord.2).dpp3 = s.dpp3 := rfl
@[simp] theorem drawWord_mdl (s : State) : (s.drawWord.2).mdl = s.mdl := rfl
@[simp] theorem drawWord_mdh (s : State) : (s.drawWord.2).mdh = s.mdh := rfl
@[simp] theorem drawWord_mdc (s : State) : (s.drawWord.2).mdc = s.mdc := rfl
@[simp] theorem drawWord_syscon (s : State) : (s.drawWord.2).syscon = s.syscon := rfl
@[simp] theorem drawWord_stkov (s : State) : (s.drawWord.2).stkov = s.stkov := rfl
@[simp] theorem drawWord_stkun (s : State) : (s.drawWord.2).stkun = s.stkun := rfl
@[simp] theorem drawWord_tfr (s : State) : (s.drawWord.2).tfr = s.tfr := rfl
@[simp] theorem drawWord_seqCount (s : State) : (s.drawWord.2).seqCount = s.seqCount := rfl
@[simp] theorem drawWord_extSfr (s : State) : (s.drawWord.2).extSfr = s.extSfr := rfl
@[simp] theorem drawWord_extData (s : State) : (s.drawWord.2).extData = s.extData := rfl
@[simp] theorem drawWord_wdt (s : State) : (s.drawWord.2).wdt = s.wdt := rfl
@[simp] theorem drawWord_wdtEnabled (s : State) : (s.drawWord.2).wdtEnabled = s.wdtEnabled := rfl
@[simp] theorem drawWord_wdtLocked (s : State) : (s.drawWord.2).wdtLocked = s.wdtLocked := rfl
@[simp] theorem drawWord_rstoutLow (s : State) : (s.drawWord.2).rstoutLow = s.rstoutLow := rfl
@[simp] theorem drawWord_runState (s : State) : (s.drawWord.2).runState = s.runState := rfl
@[simp] theorem drawWord_mem (s : State) : (s.drawWord.2).mem = s.mem := rfl
@[simp] theorem drawWord_stored (s : State) : (s.drawWord.2).stored = s.stored := rfl
@[simp] theorem drawWord_pending (s : State) : (s.drawWord.2).pending = s.pending := rfl
@[simp] theorem drawWord_nmiLow (s : State) : (s.drawWord.2).nmiLow = s.nmiLow := rfl
@[simp] theorem drawWord_wdtOverflow (s : State) : (s.drawWord.2).wdtOverflow = s.wdtOverflow := rfl
@[simp] theorem drawWord_extReset (s : State) : (s.drawWord.2).extReset = s.extReset := rfl
@[simp] theorem drawWord_freeCount (s : State) : (s.drawWord.2).freeCount = s.freeCount + 1 := rfl
@[simp] theorem drawWord_cfg (s : State) : (s.drawWord.2).cfg = s.cfg := rfl

/-! ### drawByte -/

@[simp] theorem drawByte_ip (s : State) : (s.drawByte.2).ip = s.ip := rfl
@[simp] theorem drawByte_csp (s : State) : (s.drawByte.2).csp = s.csp := rfl
@[simp] theorem drawByte_psw (s : State) : (s.drawByte.2).psw = s.psw := rfl
@[simp] theorem drawByte_sp (s : State) : (s.drawByte.2).sp = s.sp := rfl
@[simp] theorem drawByte_cp (s : State) : (s.drawByte.2).cp = s.cp := rfl
@[simp] theorem drawByte_dpp0 (s : State) : (s.drawByte.2).dpp0 = s.dpp0 := rfl
@[simp] theorem drawByte_dpp1 (s : State) : (s.drawByte.2).dpp1 = s.dpp1 := rfl
@[simp] theorem drawByte_dpp2 (s : State) : (s.drawByte.2).dpp2 = s.dpp2 := rfl
@[simp] theorem drawByte_dpp3 (s : State) : (s.drawByte.2).dpp3 = s.dpp3 := rfl
@[simp] theorem drawByte_mdl (s : State) : (s.drawByte.2).mdl = s.mdl := rfl
@[simp] theorem drawByte_mdh (s : State) : (s.drawByte.2).mdh = s.mdh := rfl
@[simp] theorem drawByte_mdc (s : State) : (s.drawByte.2).mdc = s.mdc := rfl
@[simp] theorem drawByte_syscon (s : State) : (s.drawByte.2).syscon = s.syscon := rfl
@[simp] theorem drawByte_stkov (s : State) : (s.drawByte.2).stkov = s.stkov := rfl
@[simp] theorem drawByte_stkun (s : State) : (s.drawByte.2).stkun = s.stkun := rfl
@[simp] theorem drawByte_tfr (s : State) : (s.drawByte.2).tfr = s.tfr := rfl
@[simp] theorem drawByte_seqCount (s : State) : (s.drawByte.2).seqCount = s.seqCount := rfl
@[simp] theorem drawByte_extSfr (s : State) : (s.drawByte.2).extSfr = s.extSfr := rfl
@[simp] theorem drawByte_extData (s : State) : (s.drawByte.2).extData = s.extData := rfl
@[simp] theorem drawByte_wdt (s : State) : (s.drawByte.2).wdt = s.wdt := rfl
@[simp] theorem drawByte_wdtEnabled (s : State) : (s.drawByte.2).wdtEnabled = s.wdtEnabled := rfl
@[simp] theorem drawByte_wdtLocked (s : State) : (s.drawByte.2).wdtLocked = s.wdtLocked := rfl
@[simp] theorem drawByte_rstoutLow (s : State) : (s.drawByte.2).rstoutLow = s.rstoutLow := rfl
@[simp] theorem drawByte_runState (s : State) : (s.drawByte.2).runState = s.runState := rfl
@[simp] theorem drawByte_mem (s : State) : (s.drawByte.2).mem = s.mem := rfl
@[simp] theorem drawByte_stored (s : State) : (s.drawByte.2).stored = s.stored := rfl
@[simp] theorem drawByte_pending (s : State) : (s.drawByte.2).pending = s.pending := rfl
@[simp] theorem drawByte_nmiLow (s : State) : (s.drawByte.2).nmiLow = s.nmiLow := rfl
@[simp] theorem drawByte_wdtOverflow (s : State) : (s.drawByte.2).wdtOverflow = s.wdtOverflow := rfl
@[simp] theorem drawByte_extReset (s : State) : (s.drawByte.2).extReset = s.extReset := rfl
@[simp] theorem drawByte_freeCount (s : State) : (s.drawByte.2).freeCount = s.freeCount + 1 := rfl
@[simp] theorem drawByte_cfg (s : State) : (s.drawByte.2).cfg = s.cfg := rfl

/-! ### drawBit -/

@[simp] theorem drawBit_ip (s : State) : (s.drawBit.2).ip = s.ip := rfl
@[simp] theorem drawBit_csp (s : State) : (s.drawBit.2).csp = s.csp := rfl
@[simp] theorem drawBit_psw (s : State) : (s.drawBit.2).psw = s.psw := rfl
@[simp] theorem drawBit_sp (s : State) : (s.drawBit.2).sp = s.sp := rfl
@[simp] theorem drawBit_cp (s : State) : (s.drawBit.2).cp = s.cp := rfl
@[simp] theorem drawBit_dpp0 (s : State) : (s.drawBit.2).dpp0 = s.dpp0 := rfl
@[simp] theorem drawBit_dpp1 (s : State) : (s.drawBit.2).dpp1 = s.dpp1 := rfl
@[simp] theorem drawBit_dpp2 (s : State) : (s.drawBit.2).dpp2 = s.dpp2 := rfl
@[simp] theorem drawBit_dpp3 (s : State) : (s.drawBit.2).dpp3 = s.dpp3 := rfl
@[simp] theorem drawBit_mdl (s : State) : (s.drawBit.2).mdl = s.mdl := rfl
@[simp] theorem drawBit_mdh (s : State) : (s.drawBit.2).mdh = s.mdh := rfl
@[simp] theorem drawBit_mdc (s : State) : (s.drawBit.2).mdc = s.mdc := rfl
@[simp] theorem drawBit_syscon (s : State) : (s.drawBit.2).syscon = s.syscon := rfl
@[simp] theorem drawBit_stkov (s : State) : (s.drawBit.2).stkov = s.stkov := rfl
@[simp] theorem drawBit_stkun (s : State) : (s.drawBit.2).stkun = s.stkun := rfl
@[simp] theorem drawBit_tfr (s : State) : (s.drawBit.2).tfr = s.tfr := rfl
@[simp] theorem drawBit_seqCount (s : State) : (s.drawBit.2).seqCount = s.seqCount := rfl
@[simp] theorem drawBit_extSfr (s : State) : (s.drawBit.2).extSfr = s.extSfr := rfl
@[simp] theorem drawBit_extData (s : State) : (s.drawBit.2).extData = s.extData := rfl
@[simp] theorem drawBit_wdt (s : State) : (s.drawBit.2).wdt = s.wdt := rfl
@[simp] theorem drawBit_wdtEnabled (s : State) : (s.drawBit.2).wdtEnabled = s.wdtEnabled := rfl
@[simp] theorem drawBit_wdtLocked (s : State) : (s.drawBit.2).wdtLocked = s.wdtLocked := rfl
@[simp] theorem drawBit_rstoutLow (s : State) : (s.drawBit.2).rstoutLow = s.rstoutLow := rfl
@[simp] theorem drawBit_runState (s : State) : (s.drawBit.2).runState = s.runState := rfl
@[simp] theorem drawBit_mem (s : State) : (s.drawBit.2).mem = s.mem := rfl
@[simp] theorem drawBit_stored (s : State) : (s.drawBit.2).stored = s.stored := rfl
@[simp] theorem drawBit_pending (s : State) : (s.drawBit.2).pending = s.pending := rfl
@[simp] theorem drawBit_nmiLow (s : State) : (s.drawBit.2).nmiLow = s.nmiLow := rfl
@[simp] theorem drawBit_wdtOverflow (s : State) : (s.drawBit.2).wdtOverflow = s.wdtOverflow := rfl
@[simp] theorem drawBit_extReset (s : State) : (s.drawBit.2).extReset = s.extReset := rfl
@[simp] theorem drawBit_freeCount (s : State) : (s.drawBit.2).freeCount = s.freeCount + 1 := rfl
@[simp] theorem drawBit_cfg (s : State) : (s.drawBit.2).cfg = s.cfg := rfl

/-! ### startSequence -/

@[simp] theorem startSequence_ip (s : State) (g : BitVec 2) (sfr : SfrRange) (data : DataOverride) : (startSequence s g sfr data).ip = s.ip := rfl
@[simp] theorem startSequence_csp (s : State) (g : BitVec 2) (sfr : SfrRange) (data : DataOverride) : (startSequence s g sfr data).csp = s.csp := rfl
@[simp] theorem startSequence_psw (s : State) (g : BitVec 2) (sfr : SfrRange) (data : DataOverride) : (startSequence s g sfr data).psw = s.psw := rfl
@[simp] theorem startSequence_sp (s : State) (g : BitVec 2) (sfr : SfrRange) (data : DataOverride) : (startSequence s g sfr data).sp = s.sp := rfl
@[simp] theorem startSequence_cp (s : State) (g : BitVec 2) (sfr : SfrRange) (data : DataOverride) : (startSequence s g sfr data).cp = s.cp := rfl
@[simp] theorem startSequence_dpp0 (s : State) (g : BitVec 2) (sfr : SfrRange) (data : DataOverride) : (startSequence s g sfr data).dpp0 = s.dpp0 := rfl
@[simp] theorem startSequence_dpp1 (s : State) (g : BitVec 2) (sfr : SfrRange) (data : DataOverride) : (startSequence s g sfr data).dpp1 = s.dpp1 := rfl
@[simp] theorem startSequence_dpp2 (s : State) (g : BitVec 2) (sfr : SfrRange) (data : DataOverride) : (startSequence s g sfr data).dpp2 = s.dpp2 := rfl
@[simp] theorem startSequence_dpp3 (s : State) (g : BitVec 2) (sfr : SfrRange) (data : DataOverride) : (startSequence s g sfr data).dpp3 = s.dpp3 := rfl
@[simp] theorem startSequence_mdl (s : State) (g : BitVec 2) (sfr : SfrRange) (data : DataOverride) : (startSequence s g sfr data).mdl = s.mdl := rfl
@[simp] theorem startSequence_mdh (s : State) (g : BitVec 2) (sfr : SfrRange) (data : DataOverride) : (startSequence s g sfr data).mdh = s.mdh := rfl
@[simp] theorem startSequence_mdc (s : State) (g : BitVec 2) (sfr : SfrRange) (data : DataOverride) : (startSequence s g sfr data).mdc = s.mdc := rfl
@[simp] theorem startSequence_syscon (s : State) (g : BitVec 2) (sfr : SfrRange) (data : DataOverride) : (startSequence s g sfr data).syscon = s.syscon := rfl
@[simp] theorem startSequence_stkov (s : State) (g : BitVec 2) (sfr : SfrRange) (data : DataOverride) : (startSequence s g sfr data).stkov = s.stkov := rfl
@[simp] theorem startSequence_stkun (s : State) (g : BitVec 2) (sfr : SfrRange) (data : DataOverride) : (startSequence s g sfr data).stkun = s.stkun := rfl
@[simp] theorem startSequence_tfr (s : State) (g : BitVec 2) (sfr : SfrRange) (data : DataOverride) : (startSequence s g sfr data).tfr = s.tfr := rfl
@[simp] theorem startSequence_seqCount (s : State) (g : BitVec 2) (sfr : SfrRange) (data : DataOverride) : (startSequence s g sfr data).seqCount = g.toNat + 1 := rfl
@[simp] theorem startSequence_extSfr (s : State) (g : BitVec 2) (sfr : SfrRange) (data : DataOverride) : (startSequence s g sfr data).extSfr = sfr := rfl
@[simp] theorem startSequence_extData (s : State) (g : BitVec 2) (sfr : SfrRange) (data : DataOverride) : (startSequence s g sfr data).extData = data := rfl
@[simp] theorem startSequence_wdt (s : State) (g : BitVec 2) (sfr : SfrRange) (data : DataOverride) : (startSequence s g sfr data).wdt = s.wdt := rfl
@[simp] theorem startSequence_wdtEnabled (s : State) (g : BitVec 2) (sfr : SfrRange) (data : DataOverride) : (startSequence s g sfr data).wdtEnabled = s.wdtEnabled := rfl
@[simp] theorem startSequence_wdtLocked (s : State) (g : BitVec 2) (sfr : SfrRange) (data : DataOverride) : (startSequence s g sfr data).wdtLocked = s.wdtLocked := rfl
@[simp] theorem startSequence_rstoutLow (s : State) (g : BitVec 2) (sfr : SfrRange) (data : DataOverride) : (startSequence s g sfr data).rstoutLow = s.rstoutLow := rfl
@[simp] theorem startSequence_runState (s : State) (g : BitVec 2) (sfr : SfrRange) (data : DataOverride) : (startSequence s g sfr data).runState = s.runState := rfl
@[simp] theorem startSequence_mem (s : State) (g : BitVec 2) (sfr : SfrRange) (data : DataOverride) : (startSequence s g sfr data).mem = s.mem := rfl
@[simp] theorem startSequence_stored (s : State) (g : BitVec 2) (sfr : SfrRange) (data : DataOverride) : (startSequence s g sfr data).stored = s.stored := rfl
@[simp] theorem startSequence_pending (s : State) (g : BitVec 2) (sfr : SfrRange) (data : DataOverride) : (startSequence s g sfr data).pending = s.pending := rfl
@[simp] theorem startSequence_nmiLow (s : State) (g : BitVec 2) (sfr : SfrRange) (data : DataOverride) : (startSequence s g sfr data).nmiLow = s.nmiLow := rfl
@[simp] theorem startSequence_wdtOverflow (s : State) (g : BitVec 2) (sfr : SfrRange) (data : DataOverride) : (startSequence s g sfr data).wdtOverflow = s.wdtOverflow := rfl
@[simp] theorem startSequence_extReset (s : State) (g : BitVec 2) (sfr : SfrRange) (data : DataOverride) : (startSequence s g sfr data).extReset = s.extReset := rfl
@[simp] theorem startSequence_freeCount (s : State) (g : BitVec 2) (sfr : SfrRange) (data : DataOverride) : (startSequence s g sfr data).freeCount = s.freeCount := rfl
@[simp] theorem startSequence_cfg (s : State) (g : BitVec 2) (sfr : SfrRange) (data : DataOverride) : (startSequence s g sfr data).cfg = s.cfg := rfl

end Sys2Proof.Machine
end

