-- ==== Sys2Proof/Laws/Memory.lean ====
section
/-! SUPPORT. Memory: a read after a write, and the canonical form that every memory operation keeps. -/

namespace Sys2Proof.Machine

/-! ### Reading after writing -/

theorem Memory.read_list (m : Memory) (pa a : Nat) (v : Byte) :
    (m.list pa v).read a = if a = pa then some v else m.read a := by
  induction m with
  | nil => simp only [Memory.list, Memory.read, eq_comm]
  | cons c m ih =>
    obtain ⟨x, b⟩ := c
    simp only [Memory.list]
    split
    · simp only [Memory.read, eq_comm]
    · split
      · subst_vars; by_cases h : a = x <;> simp [Memory.read, h, Ne.symm]
      · by_cases h : a = x
        · subst h; simp [Memory.read]; omega
        · simp [Memory.read, ih, Ne.symm h]

theorem Memory.read_filter (m : Memory) (pa a : Nat) :
    Memory.read (m.filter (fun e => e.1 != pa)) a = if a = pa then none else m.read a := by
  induction m with
  | nil => simp [Memory.read]
  | cons c m ih =>
    obtain ⟨x, b⟩ := c
    by_cases hx : x = pa
    · subst hx
      have e : List.filter (fun c : Host.Cell => c.1 != x) ((x, b) :: m) = List.filter (fun c => c.1 != x) m := by simp
      rw [e, ih]
      by_cases h : a = x
      · simp [h]
      · simp [Memory.read, h, Ne.symm h]
    · by_cases h : a = x
      · subst h; simp [Memory.read, hx]
      · simp [Memory.read, hx, Ne.symm h, ih]

/-- A byte written leaves the listed byte of every other address alone. -/
theorem Memory.read_write_other {c : Config} {m : Memory} {pa a : Nat} {v : Byte} (h : a ≠ pa) :
    (m.write c pa v).read a = m.read a := by
  unfold Memory.write
  split
  · rw [Memory.read_filter, if_neg h]
  · rw [Memory.read_list, if_neg h]

/-- A byte written is what its address holds, listed or not. -/
@[simp] theorem Memory.read_write_same (c : Config) (m : Memory) (pa : Nat) (v : Byte) :
    ((m.write c pa v).read pa).or (initialByte c pa) = some v := by
  unfold Memory.write
  split
  · next h => rw [Memory.read_filter, if_pos rfl, Option.none_or, h]
  · rw [Memory.read_list, if_pos rfl, Option.some_or]

/-- A word written leaves the listed byte of every address outside it alone. -/
theorem Memory.read_writeWord_other {c : Config} {m : Memory} {pa a : Nat} {v : Word} (h : a ≠ pa) (h' : a ≠ pa + 1) :
    (m.writeWord c pa v).read a = m.read a := by
  rw [Memory.writeWord, Memory.read_write_other h', Memory.read_write_other h]

/-! ### What the state's memory holds -/

/-- States with the same listed byte and the same configuration hold the same byte. -/
theorem memByte_congr {s t : State} {a : Nat} (h : t.mem.read a = s.mem.read a) (hc : t.cfg = s.cfg) :
    t.memByte a = s.memByte a := by simp only [State.memByte, h, hc]

theorem memWord_congr {s t : State} {a : Nat} (h : t.mem.read a = s.mem.read a)
    (h' : t.mem.read (a + 1) = s.mem.read (a + 1)) (hc : t.cfg = s.cfg) : t.memWord a = s.memWord a := by
  simp only [State.memWord, memByte_congr h hc, memByte_congr h' hc]

@[simp] theorem memByte_setFlags (s : State) (f : Flags) (a : Nat) : (s.setFlags f).memByte a = s.memByte a := rfl
@[simp] theorem memWord_setFlags (s : State) (f : Flags) (a : Nat) : (s.setFlags f).memWord a = s.memWord a := rfl
@[simp] theorem memByte_goto (s : State) (x : Word) (a : Nat) : (s.goto x).memByte a = s.memByte a := rfl
@[simp] theorem memWord_goto (s : State) (x : Word) (a : Nat) : (s.goto x).memWord a = s.memWord a := rfl
@[simp] theorem memByte_markWord (s : State) (pa : Nat) (a : Nat) : (s.markWord pa).memByte a = s.memByte a := rfl
@[simp] theorem memWord_markWord (s : State) (pa : Nat) (a : Nat) : (s.markWord pa).memWord a = s.memWord a := rfl
@[simp] theorem memByte_endSequence (s : State) (a : Nat) : (s.endSequence).memByte a = s.memByte a := rfl
@[simp] theorem memWord_endSequence (s : State) (a : Nat) : (s.endSequence).memWord a = s.memWord a := rfl

@[simp] theorem memByte_storeByte_same (s : State) (pa : Nat) (v : Byte) : (s.storeByte pa v).memByte pa = v := by
  simp [State.memByte]

theorem memByte_storeByte_other {s : State} {pa a : Nat} {v : Byte} (h : a ≠ pa) :
    (s.storeByte pa v).memByte a = s.memByte a := memByte_congr (by simp [Memory.read_write_other h]) rfl

theorem memByte_storeWord_other {s : State} {pa a : Nat} {v : Word} (h : a ≠ pa) (h' : a ≠ pa + 1) :
    (s.storeWord pa v).memByte a = s.memByte a := memByte_congr (by simp [Memory.read_writeWord_other h h']) rfl

theorem storeWord_eq_storeByte (s : State) (pa : Nat) (v : Word) :
    s.storeWord pa v = (s.storeByte pa (lowByte v)).storeByte (pa + 1) (highByte v) := rfl

theorem memByte_storeWord_low (s : State) (pa : Nat) (v : Word) : (s.storeWord pa v).memByte pa = lowByte v := by
  rw [storeWord_eq_storeByte, memByte_storeByte_other (by omega), memByte_storeByte_same]

theorem memByte_storeWord_high (s : State) (pa : Nat) (v : Word) : (s.storeWord pa v).memByte (pa + 1) = highByte v := by
  rw [storeWord_eq_storeByte, memByte_storeByte_same]

/-- A word stored is what memory holds there. -/
@[simp] theorem memWord_storeWord_same (s : State) (pa : Nat) (v : Word) : (s.storeWord pa v).memWord pa = v := by
  rw [State.memWord, memByte_storeWord_low, memByte_storeWord_high, high_append_low]

/-- A word stored elsewhere leaves a word alone. -/
theorem memWord_storeWord_other {s : State} {pa qa : Nat} {v : Word} (h : qa + 1 < pa ∨ pa + 1 < qa) :
    (s.storeWord pa v).memWord qa = s.memWord qa := by
  simp only [State.memWord]
  rw [memByte_storeWord_other, memByte_storeWord_other] <;> omega

/-- Two even words are the same word or apart. -/
theorem memWord_storeWord_even {s : State} {pa qa : Nat} {v : Word} (h : pa % 2 = 0) (h' : qa % 2 = 0) :
    (s.storeWord pa v).memWord qa = if qa = pa then v else s.memWord qa := by
  split
  · subst_vars; simp
  · exact memWord_storeWord_other (by omega)

/-! ### The marks of the program's stores -/

theorem mem_markStored {l : List Nat} {pa a : Nat} : a ∈ markStored l pa ↔ a = pa ∨ a ∈ l := by
  induction l with
  | nil => simp [markStored]
  | cons x l ih =>
    simp only [markStored]
    split
    · simp
    · split
      · subst_vars; simp
      · simp only [List.mem_cons, ih]; tauto

/-! ### The canonical form -/

theorem Memory.mem_list {m : Memory} {pa : Nat} {v : Byte} {c : Host.Cell} (h : c ∈ m.list pa v) :
    c = (pa, v) ∨ c ∈ m := by
  induction m with
  | nil => simpa [Memory.list] using h
  | cons d m ih =>
    obtain ⟨x, b⟩ := d
    simp only [Memory.list] at h
    split at h
    · simpa using h
    · split at h
      · simp only [List.mem_cons] at h ⊢; tauto
      · simp only [List.mem_cons] at h ⊢
        rcases h with h | h
        · tauto
        · have := ih h; tauto

theorem Memory.wf_list {c : Config} {m : Memory} {pa : Nat} {v : Byte} (hm : m.wf c)
    (hv : initialByte c pa ≠ some v) : (m.list pa v).wf c := by
  refine ⟨?_, fun e he => ?_⟩
  · obtain ⟨hs, -⟩ := hm
    induction m with
    | nil => simp [Memory.list]
    | cons d m ih =>
      obtain ⟨x, b⟩ := d
      simp only [List.pairwise_cons] at hs
      simp only [Memory.list]
      split
      · next h =>
        refine List.pairwise_cons.2 ⟨?_, List.pairwise_cons.2 hs⟩
        intro c hc
        rcases List.mem_cons.1 hc with rfl | hc
        · exact h
        · exact Nat.lt_trans h (hs.1 c hc)
      · split
        · subst_vars; exact List.pairwise_cons.2 hs
        · refine List.pairwise_cons.2 ⟨fun c hc => ?_, ih hs.2⟩
          rcases Memory.mem_list hc with rfl | hc
          · simp; omega
          · exact hs.1 c hc
  · rcases Memory.mem_list he with rfl | he
    · exact hv
    · exact hm.2 e he

/-- Writing a byte keeps the canonical form. -/
theorem Memory.wf_write {c : Config} {m : Memory} (hm : m.wf c) (pa : Nat) (v : Byte) : (m.write c pa v).wf c := by
  unfold Memory.write
  split
  · exact ⟨hm.1.filter _, fun e he => hm.2 e (List.mem_filter.1 he).1⟩
  · next hv => exact Memory.wf_list hm hv

/-- Writing a word keeps the canonical form. -/
theorem Memory.wf_writeWord {c : Config} {m : Memory} (hm : m.wf c) (pa : Nat) (v : Word) : (m.writeWord c pa v).wf c :=
  Memory.wf_write (Memory.wf_write hm _ _) _ _

theorem Memory.read_of_lt {m : Memory} {pa : Nat} (h : ∀ e ∈ m, pa < e.1) : m.read pa = none := by
  induction m with
  | nil => rfl
  | cons e m ih =>
    obtain ⟨a, b⟩ := e
    have := h (a, b) (by simp)
    simp only [Memory.read]
    rw [if_neg (by simp at this; omega)]
    exact ih fun c hc => h c (by simp [hc])

/-- The first entry of a canonical memory holds another byte than the address holds unlisted. -/
theorem Memory.first_not_initial {c : Config} {m : Memory} {a : Nat} {b : Byte} (h : Memory.wf c ((a, b) :: m)) :
    (Memory.read ((a, b) :: m) a).or (initialByte c a) ≠ initialByte c a := by
  simpa [Memory.read] using (h.2 (a, b) (by simp)).symm

/-- Memories in canonical form that hold the same at every address are the same data. -/
theorem Memory.eq_of_read {c : Config} {m k : Memory} (hm : m.wf c) (hk : k.wf c)
    (h : ∀ a, (m.read a).or (initialByte c a) = (k.read a).or (initialByte c a)) : m = k := by
  induction m generalizing k with
  | nil =>
    cases k with
    | nil => rfl
    | cons d k =>
      obtain ⟨a, b⟩ := d
      exact absurd (h a).symm (by simpa [Memory.read] using Memory.first_not_initial hk)
  | cons d m ih =>
    obtain ⟨a, b⟩ := d
    cases k with
    | nil => exact absurd (h a) (by simpa [Memory.read] using Memory.first_not_initial hm)
    | cons d' k =>
      obtain ⟨a', b'⟩ := d'
      have hm1 := List.pairwise_cons.1 hm.1
      have hk1 := List.pairwise_cons.1 hk.1
      have haa : a = a' := by
        rcases Nat.lt_trichotomy a a' with hl | he | hl
        · have e := h a
          rw [Memory.read_of_lt (m := (a', b') :: k) (pa := a), Option.none_or] at e
          · exact absurd e (Memory.first_not_initial hm)
          · intro c hc
            rcases List.mem_cons.1 hc with rfl | hc
            · exact hl
            · exact Nat.lt_trans hl (hk1.1 c hc)
        · exact he
        · have e := h a'
          rw [Memory.read_of_lt (m := (a, b) :: m) (pa := a'), Option.none_or] at e
          · exact absurd e.symm (Memory.first_not_initial hk)
          · intro c hc
            rcases List.mem_cons.1 hc with rfl | hc
            · exact hl
            · exact Nat.lt_trans hl (hm1.1 c hc)
      subst haa
      have hbb : b = b' := by simpa [Memory.read] using h a
      subst hbb
      rw [ih (k := k) ⟨hm1.2, fun e he => hm.2 e (by simp [he])⟩ ⟨hk1.2, fun e he => hk.2 e (by simp [he])⟩]
      intro x
      by_cases hx : a = x
      · subst hx
        rw [Memory.read_of_lt (hm1.1), Memory.read_of_lt (hk1.1)]
      · simpa [Memory.read, hx] using h x

end Sys2Proof.Machine
end

