-- ==== Sys2Proof/Laws/Ops.lean ====
section
/-! SUPPORT. What each shared operation does when it answers, once for each, and when it does. -/

namespace Sys2Proof.Machine

/-! ### Sequencing -/

@[simp] theorem res_pure {α : Type} (a : α) : (pure a : Res α) = .ok a := rfl

@[simp] theorem ok_bind {α β : Type} (a : α) (f : α → Res β) : ((.ok a : Res α) >>= f) = f a := rfl

@[simp] theorem error_bind {α β : Type} (e : Stop) (f : α → Res β) : ((.error e : Res α) >>= f) = .error e := rfl

@[simp] theorem ok_bind' {α β : Type} (a : α) (f : α → Res β) : Except.bind (.ok a : Res α) f = f a := rfl

@[simp] theorem error_bind' {α β : Type} (e : Stop) (f : α → Res β) : Except.bind (.error e : Res α) f = .error e := rfl

@[simp] theorem ok_map {α β : Type} (a : α) (f : α → β) : Except.map f (.ok a : Res α) = .ok (f a) := rfl

@[simp] theorem error_map {α β : Type} (e : Stop) (f : α → β) : Except.map f (.error e : Res α) = .error e := rfl

@[simp] theorem settle_ok (ret : Word) (s : State) : settle ret (.ok s) = .next s := rfl

@[simp] theorem settle_refuse (ret : Word) (r : Refusal) : settle ret (.error (.refuse r)) = .refused r := rfl

@[simp] theorem settle_trap (ret : Word) (t : Trap) (s : State) :
    settle ret (.error (.trap t s)) = raiseTrap s t ret := rfl

@[simp] theorem complete_ok (length : Nat) (s t : State) :
    complete length s (.ok t) = .next (t.goto (s.ipNext length)) := rfl

theorem bind_eq_ok {α β : Type} {r : Res α} {f : α → Res β} {b : β} (h : (r >>= f) = .ok b) :
    ∃ a, r = .ok a ∧ f a = .ok b := by
  cases r with
  | ok a => exact ⟨a, rfl, h⟩
  | error e => cases h

theorem map_eq_ok {α β : Type} {r : Res α} {f : α → β} {b : β} (h : r.map f = .ok b) : ∃ a, r = .ok a ∧ f a = b := by
  cases r with
  | ok a => exact ⟨a, rfl, by simpa using h⟩
  | error e => cases h

/-! ### PSW -/

theorem flagBits_bits (f : Flags) :
    (flagBits f).getLsbD 4 = f.e ∧ (flagBits f).getLsbD 3 = f.z ∧ (flagBits f).getLsbD 2 = f.v ∧
      (flagBits f).getLsbD 1 = f.c ∧ (flagBits f).getLsbD 0 = f.n := by
  obtain ⟨e, z, v, c, n⟩ := f
  revert e z v c n
  decide

theorem getLsbD_pswWithFlags (p : Word) (f : Flags) (i : Nat) (hi : i < 16) :
    (pswWithFlags p f).getLsbD i = if i < 5 then (flagBits f).getLsbD i else p.getLsbD i := by
  unfold pswWithFlags
  rw [BitVec.getLsbD_append]
  by_cases h : i < 5
  · simp [h]
  · have h1 : i - 5 < 11 := by omega
    have h2 : 5 + (i - 5) = i := by omega
    simp [h, h1, h2]

@[simp] theorem flagsOfPsw_pswWithFlags (p : Word) (f : Flags) : flagsOfPsw (pswWithFlags p f) = f := by
  obtain ⟨h4, h3, h2, h1, h0⟩ := flagBits_bits f
  simp only [flagsOfPsw, getLsbD_pswWithFlags p f _ (by omega : 4 < 16), getLsbD_pswWithFlags p f _ (by omega : 3 < 16),
    getLsbD_pswWithFlags p f _ (by omega : 2 < 16), getLsbD_pswWithFlags p f _ (by omega : 1 < 16),
    getLsbD_pswWithFlags p f _ (by omega : 0 < 16)]
  rw [if_pos (by omega), if_pos (by omega), if_pos (by omega), if_pos (by omega), if_pos (by omega), h4, h3, h2, h1, h0]

@[simp] theorem system_pswWithFlags (p : Word) (f : Flags) :
    (pswWithFlags p f).extractLsb' 5 11 = p.extractLsb' 5 11 := by
  apply BitVec.eq_of_getLsbD_eq
  intro i hi
  simp only [BitVec.getLsbD_extractLsb', hi, decide_true, Bool.true_and]
  rw [getLsbD_pswWithFlags p f _ (by omega), if_neg (by omega)]

@[simp] theorem setFlags_flags (s : State) (f : Flags) : (s.setFlags f).flags = f := flagsOfPsw_pswWithFlags s.psw f

theorem setFlagsFor_plain {s : State} {pa : Nat} {f : Flags} (h : isPsw s.cfg pa = false) :
    s.setFlagsFor pa f = s.setFlags f := by simp [State.setFlagsFor, h]

theorem setFlagsFor_psw {s : State} {pa : Nat} {f : Flags} (h : isPsw s.cfg pa = true) : s.setFlagsFor pa f = s := by
  simp [State.setFlagsFor, h]

/-! ### The bit layout of PSW -/

theorem getLsbD_bitsOf (f : Nat → Bool) (n i : Nat) : (bitsOf f n).getLsbD i = (decide (i < n) && f i) := by
  induction n with
  | zero => simp [bitsOf]
  | succ n ih =>
    rw [bitsOf, BitVec.getLsbD_cons, ih]
    by_cases h : i = n
    · simp [h]
    · simp [h, show i < n + 1 ↔ i < n by omega]

theorem getLsbD_pswWord (c : Config) (p : Word) (j : Nat) :
    (pswWord c p).getLsbD j = (decide (j < 16) && p.getLsbD (c.pswPlaces.idxOf j)) := getLsbD_bitsOf _ _ _

/-- In a layout that gives every bit a place of its own, what a program reads from PSW and writes back is what it held. -/
theorem pswOf_pswWord {c : Config} (h : layoutLegal c = true) (p : Word) : pswOf c (pswWord c p) = pswStored p := by
  simp only [layoutLegal, Bool.and_eq_true, decide_eq_true_eq, List.all_eq_true] at h
  obtain ⟨⟨⟨hl, hn⟩, hp⟩, -⟩ := h
  have e : bitsOf (fun k => (pswWord c p).getLsbD (c.pswPlaces.getD k 16)) 16 = p := by
    apply BitVec.eq_of_getLsbD_eq
    intro i hi
    have hil : i < c.pswPlaces.length := by omega
    have hg : c.pswPlaces.getD i 16 = c.pswPlaces[i] := by simp [List.getD, hil]
    have hi16 := hp _ (List.getElem_mem hil)
    rw [getLsbD_bitsOf, hg, getLsbD_pswWord, List.Nodup.idxOf_getElem hn i hil]
    simp [hi, hi16]
  rw [pswOf, e]

/-- In the default layout a program sees PSW in the order of 10_state.md R33. -/
theorem pswWord_default {c : Config} (h : c.pswPlaces = PswPlaces.default) (p : Word) : pswWord c p = p := by
  apply BitVec.eq_of_getLsbD_eq
  intro i hi
  have hl : i < (List.range 16).length := by simpa using hi
  have e := List.Nodup.idxOf_getElem (List.nodup_range (n := 16)) i hl
  rw [List.getElem_range] at e
  rw [getLsbD_pswWord, h, PswPlaces.default, e]
  simp [hi]

theorem pswOf_default {c : Config} (h : c.pswPlaces = PswPlaces.default) (v : Word) : pswOf c v = pswStored v := by
  have e : bitsOf (fun k => v.getLsbD (c.pswPlaces.getD k 16)) 16 = v := by
    apply BitVec.eq_of_getLsbD_eq
    intro i hi
    rw [getLsbD_bitsOf, h, PswPlaces.default]
    simp [List.getD, hi]
  rw [pswOf, e]

theorem pswStored_pswOf (c : Config) (v : Word) : pswStored (pswOf c v) = pswOf c v := by
  simp only [pswOf, pswStored, BitVec.and_assoc]; rfl

/-! ### Places -/

theorem isPsw_eq_false_of_plain {s : State} {pa : Nat} (h : isPlain s pa = true) : isPsw s.cfg pa = false := by
  simp only [isPlain, beq_iff_eq] at h
  simp [isPsw, h]

theorem accessible_of_plain {s : State} {pa : Nat} (h : isPlain s pa = true) : accessible s.cfg pa = true := by
  simp only [isPlain, beq_iff_eq] at h
  simp [accessible, h]

theorem takesWrite_of_plain {s : State} {pa : Nat} {v : Word} (h : isPlain s pa = true) :
    takesWrite s.cfg pa v = true := by
  simp only [isPlain, beq_iff_eq] at h
  simp [takesWrite, h]

/-- A write never changes the configuration. -/
@[simp] theorem writeSfr_cfg (s : State) (r : CpuSfr) (v : Word) : (s.writeSfr r v).cfg = s.cfg := by cases r <;> rfl

@[simp] theorem writeSfr_mem (s : State) (r : CpuSfr) (v : Word) : (s.writeSfr r v).mem = s.mem := by cases r <;> rfl

@[simp] theorem writeSfr_ip (s : State) (r : CpuSfr) (v : Word) : (s.writeSfr r v).ip = s.ip := by cases r <;> rfl

@[simp] theorem storeDevice_cfg (s : State) (pa : Nat) (v : Word) : (s.storeDevice pa v).cfg = s.cfg := rfl

@[simp] theorem putWord_cfg (s : State) (pa : Nat) (v : Word) : (s.putWord pa v).cfg = s.cfg := by
  unfold State.putWord; split <;> simp

@[simp] theorem putByte_cfg (s : State) (pa : Nat) (v : Byte) : (s.putByte pa v).cfg = s.cfg := by
  unfold State.putByte; split <;> simp

theorem putWord_plain {s : State} {pa : Nat} (h : isPlain s pa = true) (v : Word) :
    s.putWord pa v = s.storeWord pa v := by
  simp only [isPlain, beq_iff_eq] at h
  simp [State.putWord, h]

theorem putByte_plain {s : State} {pa : Nat} (h : isPlain s pa = true) (v : Byte) :
    s.putByte pa v = s.storeByte pa v := by
  simp only [isPlain, beq_iff_eq] at h
  simp [State.putByte, h]

theorem wordAt_plain {s : State} {pa : Nat} (h : isPlain s pa = true) : s.wordAt pa = s.memWord pa := by
  simp only [isPlain, beq_iff_eq] at h
  simp [State.wordAt, h]

theorem byteAt_plain {s : State} {pa : Nat} (h : isPlain s pa = true) : s.byteAt pa = s.memByte pa := by
  simp only [isPlain, beq_iff_eq] at h
  simp [State.byteAt, h]

theorem plain_of_plainWord {s : State} {pa : Nat} (h : isPlainWord s pa = true) :
    isPlain s pa = true ∧ isPlain s (pa + 1) = true := by
  simpa only [isPlainWord, Bool.and_eq_true] using h

/-! ### Accesses -/

/-- A byte that is there stops no read. -/
theorem readStop_eq_none {s : State} {pa : Nat} : s.readStop pa = none ↔ accessible s.cfg pa = true := by
  unfold State.readStop accessible
  cases place s.cfg pa <;> simp

/-- A byte that takes a write stops none. -/
theorem writeStop_eq_none {s : State} {pa : Nat} {v : Word} :
    s.writeStop pa v = none ↔ takesWrite s.cfg pa v = true := by
  unfold State.writeStop takesWrite
  cases place s.cfg pa with
  | sfr r => cases r <;> simp
  | _ => simp

theorem oddStop_eq_none {s : State} {pa : Nat} : s.oddStop pa = none ↔ pa % 2 = 0 := by
  unfold State.oddStop; split <;> simp [*]

theorem unlessStopped_eq_ok {α : Type} {why : Option Stop} {a b : α} :
    unlessStopped why a = .ok b ↔ why = none ∧ a = b := by
  cases why <;> simp [unlessStopped]

theorem canReadW_iff {s : State} {pa : Nat} :
    canReadW s pa = true ↔ ((s.oddStop pa).or (s.readStop pa)).or (s.readStop (pa + 1)) = none := by
  simp only [Option.or_eq_none_iff, oddStop_eq_none, readStop_eq_none, canReadW, Bool.and_eq_true, beq_iff_eq, and_assoc]

theorem canWriteW_iff {s : State} {pa : Nat} {v : Word} :
    canWriteW s pa v = true ↔ ((s.oddStop pa).or (s.writeStop pa v)).or (s.writeStop (pa + 1) v) = none := by
  simp only [Option.or_eq_none_iff, oddStop_eq_none, writeStop_eq_none, canWriteW, Bool.and_eq_true, beq_iff_eq, and_assoc]

/-- All that a word read can answer. -/
theorem memReadW_iff {s : State} {pa : Nat} {v : Word} :
    memReadW s pa = .ok v ↔ canReadW s pa = true ∧ s.wordAt pa = v := by
  rw [memReadW, unlessStopped_eq_ok, canReadW_iff]

/-- All that a byte read can answer. -/
theorem memReadB_iff {s : State} {pa : Nat} {v : Byte} :
    memReadB s pa = .ok v ↔ canReadB s pa = true ∧ s.byteAt pa = v := by
  rw [memReadB, unlessStopped_eq_ok, readStop_eq_none, canReadB]

/-- All that a word write can answer. -/
theorem memWriteW_iff {s t : State} {pa : Nat} {v : Word} :
    memWriteW s pa v = .ok t ↔ canWriteW s pa v = true ∧ s.putWord pa v = t := by
  rw [memWriteW, unlessStopped_eq_ok, canWriteW_iff]

/-- All that a byte write can answer. -/
theorem memWriteB_iff {s t : State} {pa : Nat} {v : Byte} :
    memWriteB s pa v = .ok t ↔ canWriteB s pa v = true ∧ s.putByte pa v = t := by
  rw [memWriteB, unlessStopped_eq_ok, writeStop_eq_none, canWriteB]

theorem memReadW_eq {s : State} {pa : Nat} (h : canReadW s pa = true) : memReadW s pa = .ok (s.wordAt pa) :=
  memReadW_iff.2 ⟨h, rfl⟩

theorem memReadB_eq {s : State} {pa : Nat} (h : canReadB s pa = true) : memReadB s pa = .ok (s.byteAt pa) :=
  memReadB_iff.2 ⟨h, rfl⟩

theorem memWriteW_eq {s : State} {pa : Nat} {v : Word} (h : canWriteW s pa v = true) :
    memWriteW s pa v = .ok (s.putWord pa v) := memWriteW_iff.2 ⟨h, rfl⟩

theorem memWriteB_eq {s : State} {pa : Nat} {v : Byte} (h : canWriteB s pa v = true) :
    memWriteB s pa v = .ok (s.putByte pa v) := memWriteB_iff.2 ⟨h, rfl⟩

theorem memReadW_ok {s : State} {pa : Nat} {v : Word} (h : memReadW s pa = .ok v) :
    canReadW s pa = true ∧ v = s.wordAt pa := ⟨(memReadW_iff.1 h).1, (memReadW_iff.1 h).2.symm⟩

theorem memReadB_ok {s : State} {pa : Nat} {v : Byte} (h : memReadB s pa = .ok v) :
    canReadB s pa = true ∧ v = s.byteAt pa := ⟨(memReadB_iff.1 h).1, (memReadB_iff.1 h).2.symm⟩

theorem memWriteW_ok {s t : State} {pa : Nat} {v : Word} (h : memWriteW s pa v = .ok t) :
    canWriteW s pa v = true ∧ t = s.putWord pa v := ⟨(memWriteW_iff.1 h).1, (memWriteW_iff.1 h).2.symm⟩

theorem memWriteB_ok {s t : State} {pa : Nat} {v : Byte} (h : memWriteB s pa v = .ok t) :
    canWriteB s pa v = true ∧ t = s.putByte pa v := ⟨(memWriteB_iff.1 h).1, (memWriteB_iff.1 h).2.symm⟩

/-- A write that is wanted only sometimes. -/
theorem memWriteWhenW_true (s : State) (pa : Nat) (v : Word) : memWriteWhenW s true pa v = memWriteW s pa v := by
  unfold memWriteWhenW; cases memWriteW s pa v <;> rfl

theorem memWriteWhenW_false (s : State) (pa : Nat) (v : Word) : memWriteWhenW s false pa v = .ok s := by
  unfold memWriteWhenW; cases memWriteW s pa v <;> rfl

theorem finishW_eq {s : State} {pa : Nat} {r : Flagged 16} (h : canWriteW s pa r.val = true) :
    finishW s pa r = .ok ((s.putWord pa r.val).setFlagsFor pa r.flags) := by
  simp [finishW, memWriteW_eq h]

theorem finishB_eq {s : State} {pa : Nat} {r : Flagged 8} (h : canWriteB s pa r.val = true) :
    finishB s pa r = .ok ((s.putByte pa r.val).setFlagsFor pa r.flags) := by
  simp [finishB, memWriteB_eq h]

/-- All that writing a word result can answer. -/
theorem finishW_ok {s t : State} {pa : Nat} {r : Flagged 16} (h : finishW s pa r = .ok t) :
    canWriteW s pa r.val = true ∧ t = (s.putWord pa r.val).setFlagsFor pa r.flags := by
  obtain ⟨u, hu, rfl⟩ := map_eq_ok h
  obtain ⟨hc, rfl⟩ := memWriteW_ok hu
  exact ⟨hc, rfl⟩

/-- All that writing a byte result can answer. -/
theorem finishB_ok {s t : State} {pa : Nat} {r : Flagged 8} (h : finishB s pa r = .ok t) :
    canWriteB s pa r.val = true ∧ t = (s.putByte pa r.val).setFlagsFor pa r.flags := by
  obtain ⟨u, hu, rfl⟩ := map_eq_ok h
  obtain ⟨hc, rfl⟩ := memWriteB_ok hu
  exact ⟨hc, rfl⟩

/-! ### The state after a result -/

theorem sameRegisters_storeWord (s : State) (pa : Nat) (v : Word) (f : Flags) (ip : Word) :
    SameRegisters s (((s.storeWord pa v).setFlags f).goto ip) := rfl

theorem sameRegisters_storeByte (s : State) (pa : Nat) (v : Byte) (f : Flags) (ip : Word) :
    SameRegisters s (((s.storeByte pa v).setFlags f).goto ip) := rfl

/-- A write outside PSW leaves PSW alone. -/
theorem putWord_psw {s : State} {pa : Nat} {v : Word} (h : isPsw s.cfg pa = false) : (s.putWord pa v).psw = s.psw := by
  unfold State.putWord
  simp only [isPsw] at h
  split
  · next r hr =>
    rw [hr] at h
    cases r <;> first | rfl | simp at h
  · simp [State.storeDevice]
  · simp

theorem putByte_psw {s : State} {pa : Nat} {v : Byte} (h : isPsw s.cfg pa = false) : (s.putByte pa v).psw = s.psw := by
  unfold State.putByte
  simp only [isPsw] at h
  split
  · next r hr =>
    rw [hr] at h
    cases r <;> first | rfl | simp at h
  · simp
  · simp [State.storeDevice]
  · simp

/-- A word write is remembered, whatever place it writes. -/
theorem putWord_stored (s : State) (pa : Nat) (v : Word) :
    (s.putWord pa v).stored = markStored (markStored s.stored pa) (pa + 1) := by
  unfold State.putWord
  split
  · next r _ => cases r <;> rfl
  · rfl
  · rfl

/-- A byte write is remembered. -/
theorem putByte_stored (s : State) (pa : Nat) (v : Byte) : pa ∈ (s.putByte pa v).stored := by
  have hw : pa = wordAddress pa ∨ pa = wordAddress pa + 1 := by unfold wordAddress; omega
  unfold State.putByte
  split
  · simp only [markWord_stored, mem_markStored]; tauto
  · simp only [storeWord_stored, mem_markStored]; tauto
  · simp only [State.storeDevice, storeWord_stored, mem_markStored]; tauto
  · simp [mem_markStored]

/-- A word write leaves every byte outside its word alone. -/
theorem putWord_read {s : State} {pa a : Nat} {v : Word} (h : a ≠ pa) (h' : a ≠ pa + 1) :
    (s.putWord pa v).mem.read a = s.mem.read a := by
  unfold State.putWord
  split
  · simp
  · simp [State.storeDevice, Memory.read_writeWord_other h h']
  · simp [Memory.read_writeWord_other h h']

theorem setFlagsFor_mem (s : State) (pa : Nat) (f : Flags) : (s.setFlagsFor pa f).mem = s.mem := by
  unfold State.setFlagsFor; split <;> rfl

theorem setFlagsFor_cfg (s : State) (pa : Nat) (f : Flags) : (s.setFlagsFor pa f).cfg = s.cfg := by
  unfold State.setFlagsFor; split <;> rfl

theorem wordResult (s : State) (pa : Nat) (r : Flagged 16) (length : Nat) :
    WordResult s (((s.putWord pa r.val).setFlagsFor pa r.flags).goto (s.ipNext length)) pa r length where
  state := rfl
  ip := rfl
  value h := by
    rw [putWord_plain h, setFlagsFor_plain (by simpa using isPsw_eq_false_of_plain h), wordAt_plain (by simpa [isPlain] using h)]
    simp
  flags h := by
    rw [setFlagsFor_plain (by simpa using h)]
    refine ⟨by simp [State.flags], ?_⟩
    simp [SameSystemBits, putWord_psw h]
  psw h := by
    rw [setFlagsFor_psw (by simpa using h)]
    simp only [isPsw, beq_iff_eq] at h
    simp [State.putWord, h, State.writeSfr]
  registers h := by
    rw [putWord_plain h, setFlagsFor_plain (by simpa using isPsw_eq_false_of_plain h)]
    rfl
  memory a h h' := by simp [setFlagsFor_mem, putWord_read h h']

theorem byteResult (s : State) (pa : Nat) (r : Flagged 8) (length : Nat) :
    ByteResult s (((s.putByte pa r.val).setFlagsFor pa r.flags).goto (s.ipNext length)) pa r length where
  state := rfl
  ip := rfl
  value h := by
    rw [putByte_plain h, setFlagsFor_plain (by simpa using isPsw_eq_false_of_plain h), byteAt_plain (by simpa [isPlain] using h)]
    simp
  flags h := by
    rw [setFlagsFor_plain (by simpa using h)]
    refine ⟨by simp [State.flags], ?_⟩
    simp [SameSystemBits, putByte_psw h]
  psw h := by
    rw [setFlagsFor_psw (by simpa using h)]
    simp only [isPsw, beq_iff_eq] at h
    simp [State.putByte, h, State.writeSfr]
  registers h := by
    rw [putByte_plain h, setFlagsFor_plain (by simpa using isPsw_eq_false_of_plain h)]
    rfl
  memory h a ha := by
    rw [putByte_plain h]
    simp [setFlagsFor_mem, Memory.read_write_other ha]

theorem flagResult (s : State) (f : Flags) (length : Nat) :
    FlagResult s ((s.setFlags f).goto (s.ipNext length)) f length where
  state := rfl
  ip := rfl
  flags := by simp [State.flags]
  system := by simp [SameSystemBits]
  registers := rfl
  memory := rfl

/-! ### The register bank -/

theorem cpLegal_of_bank {s : State} (h : bankReady s = true) : cpLegal s.cp = true := by
  simp only [bankReady, Bool.and_eq_true] at h; exact h.1

theorem plain_of_bank {s : State} (h : bankReady s = true) {k : Nat} (hk : k < 32) :
    isPlain s (s.cp.toNat + k) = true := by
  simp only [bankReady, Bool.and_eq_true, List.all_eq_true, List.mem_range] at h
  exact h.2 k hk

theorem cp_even {s : State} (h : cpLegal s.cp = true) : s.cp.toNat % 2 = 0 := by
  simp only [cpLegal, Bool.and_eq_true, beq_iff_eq] at h; exact h.1

theorem plain_gpr {s : State} (h : bankReady s = true) (n : Nib) : isPlain s (s.gprAddress n) = true :=
  plain_of_bank h (by have := n.isLt; omega)

theorem plain_gprByte {s : State} (h : bankReady s = true) (k : Nib) : isPlain s (s.gprByteAddress k) = true :=
  plain_of_bank h (by have := k.isLt; omega)

theorem gprAddress_even {s : State} (h : cpLegal s.cp = true) (n : Nib) : s.gprAddress n % 2 = 0 := by
  have := cp_even h; simp only [State.gprAddress]; omega

theorem plainWord_gpr {s : State} (h : bankReady s = true) (n : Nib) : isPlainWord s (s.gprAddress n) = true := by
  have hh : isPlain s (s.gprAddress n + 1) = true := by
    have e : s.gprAddress n + 1 = s.cp.toNat + (2 * n.toNat + 1) := by simp only [State.gprAddress]; omega
    rw [e]
    exact plain_of_bank h (by have := n.isLt; omega)
  simp [isPlainWord, plain_gpr h n, hh]

/-- A word of memory at an even address can be read and written. -/
theorem canReadW_plain {s : State} {pa : Nat} (he : pa % 2 = 0) (h : isPlainWord s pa = true) : canReadW s pa = true := by
  obtain ⟨h1, h2⟩ := plain_of_plainWord h
  simp [canReadW, he, accessible_of_plain h1, accessible_of_plain h2]

theorem canWriteW_plain {s : State} {pa : Nat} {v : Word} (he : pa % 2 = 0) (h : isPlainWord s pa = true) :
    canWriteW s pa v = true := by
  obtain ⟨h1, h2⟩ := plain_of_plainWord h
  simp [canWriteW, he, takesWrite_of_plain h1, takesWrite_of_plain h2]

theorem canReadW_gpr {s : State} (h : bankReady s = true) (n : Nib) : canReadW s (s.gprAddress n) = true :=
  canReadW_plain (gprAddress_even (cpLegal_of_bank h) n) (plainWord_gpr h n)

theorem canWriteW_gpr {s : State} (h : bankReady s = true) (n : Nib) (v : Word) :
    canWriteW s (s.gprAddress n) v = true :=
  canWriteW_plain (gprAddress_even (cpLegal_of_bank h) n) (plainWord_gpr h n)

theorem canReadB_gpr {s : State} (h : bankReady s = true) (k : Nib) : canReadB s (s.gprByteAddress k) = true :=
  accessible_of_plain (plain_gprByte h k)

theorem canWriteB_gpr {s : State} (h : bankReady s = true) (k : Nib) (v : Byte) :
    canWriteB s (s.gprByteAddress k) v = true := takesWrite_of_plain (plain_gprByte h k)

@[simp] theorem rwAddress_eq {s : State} (h : cpLegal s.cp = true) (n : Nib) : rwAddress s n = .ok (s.gprAddress n) := by
  simp [rwAddress, inBank, h]

@[simp] theorem rbAddress_eq {s : State} (h : cpLegal s.cp = true) (k : Nib) :
    rbAddress s k = .ok (s.gprByteAddress k) := by
  simp [rbAddress, inBank, h]

theorem readRw_eq {s : State} (h : bankReady s = true) (n : Nib) : readRw s n = .ok (s.gpr n) := by
  simp [readRw, readW, cpLegal_of_bank h, memReadW_eq (canReadW_gpr h n), State.gpr]

theorem readRb_eq {s : State} (h : bankReady s = true) (k : Nib) : readRb s k = .ok (s.gprByte k) := by
  simp [readRb, readB, cpLegal_of_bank h, memReadB_eq (canReadB_gpr h k), State.gprByte]

theorem regAddressW_eq {s : State} {reg : Byte} (h : regReady s reg = true) : regAddressW s reg = .ok (regW s reg) := by
  simp only [regReady, Bool.or_eq_true, decide_eq_true_eq] at h
  by_cases hr : reg.toNat < 0xF0
  · simp [regAddressW, regW, hr]
  · simp [regAddressW, regW, hr, cpLegal_of_bank (h.resolve_left hr)]

theorem regAddressB_eq {s : State} {reg : Byte} (h : regReady s reg = true) : regAddressB s reg = .ok (regB s reg) := by
  simp only [regReady, Bool.or_eq_true, decide_eq_true_eq] at h
  by_cases hr : reg.toNat < 0xF0
  · simp [regAddressB, regB, hr]
  · simp [regAddressB, regB, hr, cpLegal_of_bank (h.resolve_left hr)]

theorem bitoffAddress_eq {s : State} {b : Byte} (h : bitoffReady s b = true) :
    bitoffAddress s b = .ok (bitoffW s b) := by
  simp only [bitoffReady, Bool.or_eq_true, decide_eq_true_eq] at h
  unfold bitoffAddress bitoffW
  split
  · rfl
  · split
    · rfl
    · next h1 h2 => rw [rwAddress_eq (cpLegal_of_bank (h.resolve_left h2))]

/-! ### Stack -/

theorem push_eq {s : State} {v : Word} (h : canWriteW s (s.sp - 2).toNat v = true) :
    push s v = .ok ({ s with sp := s.sp - 2 }.putWord (s.sp - 2).toNat v) := by
  unfold push; exact memWriteW_eq h

theorem pop_eq {s : State} (h : canReadW s s.sp.toNat = true) :
    pop s = .ok (s.wordAt s.sp.toNat, { s with sp := s.sp + 2 }) := by
  simp [pop, memReadW_eq h]

/-- All that a push can answer. -/
theorem push_ok {s t : State} {v : Word} (h : push s v = .ok t) :
    canWriteW s (s.sp - 2).toNat v = true ∧ t = { s with sp := s.sp - 2 }.putWord (s.sp - 2).toNat v :=
  memWriteW_ok (s := { s with sp := s.sp - 2 }) h

/-- All that a pop can answer. -/
theorem pop_ok {s : State} {p : Word × State} (h : pop s = .ok p) :
    canReadW s s.sp.toNat = true ∧ p = (s.wordAt s.sp.toNat, { s with sp := s.sp + 2 }) := by
  obtain ⟨w, hw, rfl⟩ := map_eq_ok h
  obtain ⟨hc, rfl⟩ := memReadW_ok hw
  exact ⟨hc, rfl⟩

end Sys2Proof.Machine
end

