-- ==== Sys2Proof/Laws/Operands.lean ====
section
/-! SUPPORT. What each operand form and each template answers on operands that can be accessed. -/

namespace Sys2Proof.Machine

/-! ### Accesses depend on the configuration only -/

@[simp] theorem canReadW_storeWord (s : State) (a : Nat) (v : Word) (pa : Nat) :
    canReadW (s.storeWord a v) pa = canReadW s pa := rfl

@[simp] theorem canReadB_storeWord (s : State) (a : Nat) (v : Word) (pa : Nat) :
    canReadB (s.storeWord a v) pa = canReadB s pa := rfl

@[simp] theorem canWriteW_storeWord (s : State) (a : Nat) (v : Word) (pa : Nat) (w : Word) :
    canWriteW (s.storeWord a v) pa w = canWriteW s pa w := rfl

@[simp] theorem canWriteB_storeWord (s : State) (a : Nat) (v : Word) (pa : Nat) (w : Byte) :
    canWriteB (s.storeWord a v) pa w = canWriteB s pa w := rfl

@[simp] theorem bankReady_storeWord (s : State) (a : Nat) (v : Word) : bankReady (s.storeWord a v) = bankReady s := rfl

@[simp] theorem isPlain_storeWord (s : State) (a : Nat) (v : Word) (pa : Nat) :
    isPlain (s.storeWord a v) pa = isPlain s pa := rfl

@[simp] theorem gprAddress_storeWord (s : State) (a : Nat) (v : Word) (n : Nib) :
    (s.storeWord a v).gprAddress n = s.gprAddress n := rfl

@[simp] theorem gprByteAddress_storeWord (s : State) (a : Nat) (v : Word) (n : Nib) :
    (s.storeWord a v).gprByteAddress n = s.gprByteAddress n := rfl

@[simp] theorem physData_storeWord (s : State) (a : Nat) (v la : Word) : (s.storeWord a v).physData la = s.physData la :=
  rfl

@[simp] theorem flags_storeWord (s : State) (a : Nat) (v : Word) : (s.storeWord a v).flags = s.flags := rfl

@[simp] theorem ipNext_storeWord (s : State) (a : Nat) (v : Word) (k : Nat) : (s.storeWord a v).ipNext k = s.ipNext k :=
  rfl

@[simp] theorem ownWord_storeWord (s : State) (a : Nat) (v : Word) (f : Nib) (pa : Nat) :
    (s.storeWord a v).ownWord f pa = s.ownWord f pa := rfl

/-! ### GPRs after a store -/

theorem gprAddress_inj {s : State} {n m : Nib} (h : s.gprAddress n = s.gprAddress m) : n = m := by
  simp only [State.gprAddress] at h
  exact BitVec.eq_of_toNat_eq (by omega)

/-- A word GPR after a word was stored in memory at an even address. -/
theorem gpr_storeWord {s : State} (h : bankReady s = true) {a : Nat} (ha : a % 2 = 0) (v : Word) (n : Nib) :
    (s.storeWord a v).gpr n = if s.gprAddress n = a then v else s.gpr n := by
  have hp := plain_gpr h n
  simp only [State.gpr]
  rw [wordAt_plain (by simpa using hp), wordAt_plain hp]
  simpa using memWord_storeWord_even ha (gprAddress_even (cpLegal_of_bank h) n)

theorem gpr_storeWord_other {s : State} (h : bankReady s = true) {n m : Nib} (hnm : n ≠ m) (v : Word) :
    (s.storeWord (s.gprAddress m) v).gpr n = s.gpr n := by
  rw [gpr_storeWord h (gprAddress_even (cpLegal_of_bank h) m), if_neg (fun e => hnm (gprAddress_inj e))]

theorem gprByte_storeWord_other {s : State} (h : bankReady s = true) {k m : Nib} (hkm : m ≠ wordOfByteGpr k) (v : Word) :
    (s.storeWord (s.gprAddress m) v).gprByte k = s.gprByte k := by
  have hp := plain_gprByte h k
  have hne : m.toNat ≠ k.toNat / 2 := by
    intro e
    apply hkm
    apply BitVec.eq_of_toNat_eq
    have := k.isLt
    simp only [wordOfByteGpr, BitVec.toNat_ofNat]
    omega
  simp only [State.gprByte]
  rw [byteAt_plain (by simpa using hp), byteAt_plain hp]
  simp only [gprByteAddress_storeWord]
  apply memByte_storeWord_other <;> simp only [State.gprByteAddress, State.gprAddress] <;> omega

/-! ### Sources -/

theorem fromRw_eq {s : State} (h : bankReady s = true) (n : Nib) : fromRw s n = .ok (s.gpr n, s) := by
  simp [fromRw, readRw_eq h]

theorem fromRb_eq {s : State} (h : bankReady s = true) (k : Nib) : fromRb s k = .ok (s.gprByte k, s) := by
  simp [fromRb, readRb_eq h]

theorem fromRegW_eq {s : State} {reg : Byte} (h : regReady s reg = true) (hr : canReadW s (regW s reg) = true) :
    fromRegW s reg = .ok (s.wordAt (regW s reg), s) := by
  simp [fromRegW, readW, regAddressW_eq h, memReadW_eq hr]

theorem fromRegB_eq {s : State} {reg : Byte} (h : regReady s reg = true) (hr : canReadB s (regB s reg) = true) :
    fromRegB s reg = .ok (s.byteAt (regB s reg), s) := by
  simp [fromRegB, readB, regAddressB_eq h, memReadB_eq hr]

theorem fromMemW_eq {s : State} {mem : Word} (h : canReadW s (s.physData mem) = true) :
    fromMemW s mem = .ok (s.wordAt (s.physData mem), s) := by
  simp [fromMemW, memReadW_eq h]

theorem fromMemB_eq {s : State} {mem : Word} (h : canReadB s (s.physData mem) = true) :
    fromMemB s mem = .ok (s.byteAt (s.physData mem), s) := by
  simp [fromMemB, memReadB_eq h]

@[simp] theorem fromConst_eq {k : Nat} (w : Nat) (s : State) (c : BitVec k) : fromConst w s c = .ok (c.setWidth w, s) := rfl

theorem readThroughW_eq {s : State} {f : Nib} {pa : Nat} (h : canReadW s pa = true) (ho : s.ownWord f pa = false) :
    readThroughW s f pa = .ok (s.wordAt pa, s) := by
  simp [readThroughW, memReadW_eq h, ho]

theorem readThroughB_eq {s : State} {f : Nib} {pa : Nat} (h : canReadB s pa = true) (ho : s.ownWord f pa = false) :
    readThroughB s f pa = .ok (s.byteAt pa, s) := by
  simp [readThroughB, memReadB_eq h, ho]

theorem readIndW_eq {s : State} {f : Nib} (h : bankReady s = true) (hr : canReadW s (s.physData (s.gpr f)) = true)
    (ho : s.ownWord f (s.physData (s.gpr f)) = false) :
    readIndW s f = .ok (s.wordAt (s.physData (s.gpr f)), s) := by
  simp [readIndW, readRw_eq h, readThroughW_eq hr ho]

theorem readIndB_eq {s : State} {f : Nib} (h : bankReady s = true) (hr : canReadB s (s.physData (s.gpr f)) = true)
    (ho : s.ownWord f (s.physData (s.gpr f)) = false) :
    readIndB s f = .ok (s.byteAt (s.physData (s.gpr f)), s) := by
  simp [readIndB, readRw_eq h, readThroughB_eq hr ho]

theorem readDispW_eq {s : State} {f : Nib} {c : Word} (h : bankReady s = true)
    (hr : canReadW s (s.physData (s.gpr f + c)) = true) (ho : s.ownWord f (s.physData (s.gpr f + c)) = false) :
    readDispW s f c = .ok (s.wordAt (s.physData (s.gpr f + c)), s) := by
  simp [readDispW, readRw_eq h, readThroughW_eq hr ho]

theorem readDispB_eq {s : State} {f : Nib} {c : Word} (h : bankReady s = true)
    (hr : canReadB s (s.physData (s.gpr f + c)) = true) (ho : s.ownWord f (s.physData (s.gpr f + c)) = false) :
    readDispB s f c = .ok (s.byteAt (s.physData (s.gpr f + c)), s) := by
  simp [readDispB, readRw_eq h, readThroughB_eq hr ho]

/-- A GPR that is memory is written as memory. -/
theorem memWriteW_gpr {s : State} (h : bankReady s = true) (n : Nib) (v : Word) :
    memWriteW s (s.gprAddress n) v = .ok (s.storeWord (s.gprAddress n) v) := by
  rw [memWriteW_eq (canWriteW_gpr h n v), putWord_plain (plain_gpr h n)]

theorem memReadW_gpr {s : State} (h : bankReady s = true) (n : Nib) : memReadW s (s.gprAddress n) = .ok (s.gpr n) :=
  memReadW_eq (canReadW_gpr h n)

theorem memReadB_gpr {s : State} (h : bankReady s = true) (k : Nib) :
    memReadB s (s.gprByteAddress k) = .ok (s.gprByte k) := memReadB_eq (canReadB_gpr h k)

theorem readIndIncW_eq {s : State} {f : Nib} (h : bankReady s = true) (hr : canReadW s (s.physData (s.gpr f)) = true)
    (ho : s.ownWord f (s.physData (s.gpr f)) = false) :
    readIndIncW s f =
      .ok (s.wordAt (s.physData (s.gpr f)), s.storeWord (s.gprAddress f) (s.gpr f + 2)) := by
  simp [readIndIncW, cpLegal_of_bank h, memReadW_gpr h, readThroughW_eq hr ho, memWriteW_gpr h]

theorem readIndIncB_eq {s : State} {f : Nib} (h : bankReady s = true) (hr : canReadB s (s.physData (s.gpr f)) = true)
    (ho : s.ownWord f (s.physData (s.gpr f)) = false) :
    readIndIncB s f =
      .ok (s.byteAt (s.physData (s.gpr f)), s.storeWord (s.gprAddress f) (s.gpr f + 1)) := by
  simp [readIndIncB, cpLegal_of_bank h, memReadW_gpr h, readThroughB_eq hr ho, memWriteW_gpr h]

/-! ### Templates -/

theorem aluW_eq {op : AluOp} {before : Flags} {source : Res (Word × State)} {address : State → Res Nat} {b : Word} {s : State} {pa : Nat}
    (hs : source = .ok (b, s)) (ha : address s = .ok pa) (hr : canReadW s pa = true)
    (hw : canWriteW s pa (op.eval before (s.wordAt pa) b).val = true) :
    aluW op before source address =
      .ok ((s.putWord pa (op.eval before (s.wordAt pa) b).val).setFlagsFor pa (op.eval before (s.wordAt pa) b).flags) := by
  simp [aluW, hs, ha, memReadW_eq hr, finishW_eq hw]

theorem aluB_eq {op : AluOp} {before : Flags} {source : Res (Byte × State)} {address : State → Res Nat} {b : Byte} {s : State} {pa : Nat}
    (hs : source = .ok (b, s)) (ha : address s = .ok pa) (hr : canReadB s pa = true)
    (hw : canWriteB s pa (op.eval before (s.byteAt pa) b).val = true) :
    aluB op before source address =
      .ok ((s.putByte pa (op.eval before (s.byteAt pa) b).val).setFlagsFor pa (op.eval before (s.byteAt pa) b).flags) := by
  simp [aluB, hs, ha, memReadB_eq hr, finishB_eq hw]

theorem compareW_eq {source : Res (Word × State)} {address : State → Res Nat} {b : Word} {s : State} {pa : Nat}
    (hs : source = .ok (b, s)) (ha : address s = .ok pa) (hr : canReadW s pa = true) :
    compareW source address = .ok (s.setFlags (compareFlags (s.wordAt pa) b)) := by
  simp [compareW, hs, ha, readW, memReadW_eq hr]

theorem compareB_eq {source : Res (Byte × State)} {address : State → Res Nat} {b : Byte} {s : State} {pa : Nat}
    (hs : source = .ok (b, s)) (ha : address s = .ok pa) (hr : canReadB s pa = true) :
    compareB source address = .ok (s.setFlags (compareFlags (s.byteAt pa) b)) := by
  simp [compareB, hs, ha, readB, memReadB_eq hr]

theorem toW_eq {address : State → Res Nat} {s : State} {pa : Nat} {r : Flagged 16} (ha : address s = .ok pa)
    (hw : canWriteW s pa r.val = true) : toW address s r = .ok ((s.putWord pa r.val).setFlagsFor pa r.flags) := by
  simp [toW, ha, finishW_eq hw]

theorem toB_eq {address : State → Res Nat} {s : State} {pa : Nat} {r : Flagged 8} (ha : address s = .ok pa)
    (hw : canWriteB s pa r.val = true) : toB address s r = .ok ((s.putByte pa r.val).setFlagsFor pa r.flags) := by
  simp [toB, ha, finishB_eq hw]

theorem finishIndW_eq {s : State} {f : Nib} {r : Flagged 16} (h : bankReady s = true)
    (hw : canWriteW s (s.physData (s.gpr f)) r.val = true) (ho : s.ownWord f (s.physData (s.gpr f)) = false) :
    finishIndW s f r =
      .ok ((s.putWord (s.physData (s.gpr f)) r.val).setFlagsFor (s.physData (s.gpr f)) r.flags) := by
  simp [finishIndW, readRw_eq h, finishThroughW, storedThroughW, ho, finishW_eq hw]

theorem finishIndB_eq {s : State} {f : Nib} {r : Flagged 8} (h : bankReady s = true)
    (hw : canWriteB s (s.physData (s.gpr f)) r.val = true) (ho : s.ownWord f (s.physData (s.gpr f)) = false) :
    finishIndB s f r =
      .ok ((s.putByte (s.physData (s.gpr f)) r.val).setFlagsFor (s.physData (s.gpr f)) r.flags) := by
  simp [finishIndB, readRw_eq h, finishThroughB, storedThroughB, ho, finishB_eq hw]

theorem finishDispW_eq {s : State} {f : Nib} {c : Word} {r : Flagged 16} (h : bankReady s = true)
    (hw : canWriteW s (s.physData (s.gpr f + c)) r.val = true) (ho : s.ownWord f (s.physData (s.gpr f + c)) = false) :
    finishDispW s f c r =
      .ok ((s.putWord (s.physData (s.gpr f + c)) r.val).setFlagsFor (s.physData (s.gpr f + c)) r.flags) := by
  simp [finishDispW, readRw_eq h, finishThroughW, storedThroughW, ho, finishW_eq hw]

theorem finishDispB_eq {s : State} {f : Nib} {c : Word} {r : Flagged 8} (h : bankReady s = true)
    (hw : canWriteB s (s.physData (s.gpr f + c)) r.val = true) (ho : s.ownWord f (s.physData (s.gpr f + c)) = false) :
    finishDispB s f c r =
      .ok ((s.putByte (s.physData (s.gpr f + c)) r.val).setFlagsFor (s.physData (s.gpr f + c)) r.flags) := by
  simp [finishDispB, readRw_eq h, finishThroughB, storedThroughB, ho, finishB_eq hw]

theorem finishPreDecW_eq {s : State} {f : Nib} {r : Flagged 16} (h : bankReady s = true)
    (hw : canWriteW s (s.physData (s.gpr f - 2)) r.val = true) (ho : s.ownWord f (s.physData (s.gpr f - 2)) = false) :
    finishPreDecW s f r =
      .ok (((s.storeWord (s.gprAddress f) (s.gpr f - 2)).putWord (s.physData (s.gpr f - 2)) r.val).setFlagsFor
        (s.physData (s.gpr f - 2)) r.flags) := by
  have hf := finishW_eq (s := s.storeWord (s.gprAddress f) (s.gpr f - 2)) (r := r) hw
  simp only [BitVec.ofNat_eq_ofNat] at hf ho ⊢
  simp [finishPreDecW, cpLegal_of_bank h, memReadW_gpr h, memWriteW_gpr h, finishThroughW, storedThroughW, ho, hf]

theorem finishPreDecB_eq {s : State} {f : Nib} {r : Flagged 8} (h : bankReady s = true)
    (hw : canWriteB s (s.physData (s.gpr f - 1)) r.val = true) (ho : s.ownWord f (s.physData (s.gpr f - 1)) = false) :
    finishPreDecB s f r =
      .ok (((s.storeWord (s.gprAddress f) (s.gpr f - 1)).putByte (s.physData (s.gpr f - 1)) r.val).setFlagsFor
        (s.physData (s.gpr f - 1)) r.flags) := by
  have hf := finishB_eq (s := s.storeWord (s.gprAddress f) (s.gpr f - 1)) (r := r) hw
  simp only [BitVec.ofNat_eq_ofNat] at hf ho ⊢
  simp [finishPreDecB, cpLegal_of_bank h, memReadW_gpr h, memWriteW_gpr h, finishThroughB, storedThroughB, ho, hf]

/-- A write to `pa` leaves the place of every address as it was. -/
theorem memWriteW_after_putWord {s : State} {pa qa : Nat} {v w : Word} (h : canWriteW s qa w = true) :
    memWriteW (s.putWord pa v) qa w = .ok ((s.putWord pa v).putWord qa w) :=
  memWriteW_eq (by simpa [canWriteW] using h)

theorem memWriteW_after_putByte {s : State} {pa qa : Nat} {v : Byte} {w : Word} (h : canWriteW s qa w = true) :
    memWriteW (s.putByte pa v) qa w = .ok ((s.putByte pa v).putWord qa w) :=
  memWriteW_eq (by simpa [canWriteW] using h)

theorem finishIndIncW_eq {s : State} {f : Nib} {r : Flagged 16} (h : bankReady s = true)
    (hw : canWriteW s (s.physData (s.gpr f)) r.val = true) (ho : s.ownWord f (s.physData (s.gpr f)) = false) :
    finishIndIncW s f false r =
      .ok (((s.putWord (s.physData (s.gpr f)) r.val).storeWord (s.gprAddress f) (s.gpr f + 2)).setFlagsFor
        (s.physData (s.gpr f)) r.flags) := by
  have hp : isPlain (s.putWord (s.physData (s.gpr f)) r.val) (s.gprAddress f) = true := by
    simpa [isPlain] using plain_gpr h f
  simp [finishIndIncW, cpLegal_of_bank h, memReadW_gpr h, memWriteW_eq hw, afterIncrement, ho,
    memWriteW_after_putWord (canWriteW_gpr h f _), putWord_plain hp]

theorem finishIndIncB_eq {s : State} {f : Nib} {r : Flagged 8} (h : bankReady s = true)
    (hw : canWriteB s (s.physData (s.gpr f)) r.val = true) (ho : s.ownWord f (s.physData (s.gpr f)) = false) :
    finishIndIncB s f false r =
      .ok (((s.putByte (s.physData (s.gpr f)) r.val).storeWord (s.gprAddress f) (s.gpr f + 1)).setFlagsFor
        (s.physData (s.gpr f)) r.flags) := by
  have hp : isPlain (s.putByte (s.physData (s.gpr f)) r.val) (s.gprAddress f) = true := by
    simpa [isPlain] using plain_gpr h f
  simp [finishIndIncB, cpLegal_of_bank h, memReadW_gpr h, memWriteB_eq hw, afterIncrement, ho,
    memWriteW_after_putByte (canWriteW_gpr h f _), putWord_plain hp]

theorem readBit_eq {s : State} {b : Byte} {p : Nib} (h : bitoffReady s b = true) (hr : canReadW s (bitoffW s b) = true) :
    readBit s b p = .ok (bitOf (s.wordAt (bitoffW s b)) p) := by
  simp [readBit, readW, bitoffAddress_eq h, memReadW_eq hr]

theorem updateBit_eq {s : State} {b : Byte} {p : Nib} {f : Bool → Bool} {g : Bool → Flags}
    (h : bitoffReady s b = true) (hr : canReadW s (bitoffW s b) = true)
    (hw : canWriteW s (bitoffW s b) (withBit (s.wordAt (bitoffW s b)) p (f (bitOf (s.wordAt (bitoffW s b)) p))) = true) :
    updateBit s b p f g =
      .ok ((s.putWord (bitoffW s b) (withBit (s.wordAt (bitoffW s b)) p (f (bitOf (s.wordAt (bitoffW s b)) p)))).setFlagsFor
        (bitoffW s b) (g (bitOf (s.wordAt (bitoffW s b)) p))) := by
  have hf := finishW_eq (s := s) (pa := bitoffW s b) (r := ⟨withBit (s.wordAt (bitoffW s b)) p
    (f (bitOf (s.wordAt (bitoffW s b)) p)), g (bitOf (s.wordAt (bitoffW s b)) p)⟩) hw
  simpa [updateBit, bitoffAddress_eq h, memReadW_eq hr] using hf

theorem updateField_eq {s : State} {b : Byte} {f : Word → Word} (h : bitoffReady s b = true)
    (hr : canReadW s (bitoffW s b) = true) (hw : canWriteW s (bitoffW s b) (f (s.wordAt (bitoffW s b))) = true) :
    updateField s b f =
      .ok ((s.putWord (bitoffW s b) (f (s.wordAt (bitoffW s b)))).setFlagsFor (bitoffW s b)
        (fieldFlags (f (s.wordAt (bitoffW s b))))) := by
  have hf := finishW_eq (s := s) (pa := bitoffW s b)
    (r := ⟨f (s.wordAt (bitoffW s b)), fieldFlags (f (s.wordAt (bitoffW s b)))⟩) hw
  simpa [updateField, bitoffAddress_eq h, memReadW_eq hr] using hf

end Sys2Proof.Machine
end

