-- ==== Sys2Proof/Laws/Flags.lean ====
section
/-! SUPPORT. The flag computations in the two forms that spec/ gives them: exact integers and bit forms
(10_state.md R34). -/

namespace Sys2Proof.Machine

theorem eOf_word (b : Word) : eOf b = decide (b = BitVec.ofNat 16 (2 ^ (16 - 1))) := by
  simp only [eOf, ← BitVec.toNat_inj, beq_eq_decide]; rfl

theorem eOf_byte (b : Byte) : eOf b = decide (b = BitVec.ofNat 8 (2 ^ (8 - 1))) := by
  simp only [eOf, ← BitVec.toNat_inj, beq_eq_decide]; rfl

theorem zOf_eq {w : Nat} (r : BitVec w) : zOf r = decide (r = 0) := by
  simp [zOf, ← BitVec.toNat_inj, beq_eq_decide]

theorem boolToInt (b : Bool) : b.toInt = b.toNat := by cases b <;> rfl

/-- The exact sum of two words, in the bit forms of its value and overflow. -/
theorem addExact_word (a b : Word) (cin : Bool) :
    addExact a b cin =
      { val := a + b + BitVec.ofNat 16 cin.toNat
        c := decide (2 ^ 16 ≤ a.toNat + b.toNat + cin.toNat)
        v := a.msb == b.msb && (a + b + BitVec.ofNat 16 cin.toNat).msb != a.msb } := by
  have hv : (addExact a b cin).v = (a.msb == b.msb && (a + b + BitVec.ofNat 16 cin.toNat).msb != a.msb) := by
    have ha := a.isLt
    have hb := b.isLt
    have hc : cin.toNat ≤ 1 := Bool.toNat_le cin
    simp only [addExact, outOfRange, BitVec.msb_eq_decide, BitVec.toInt_eq_toNat_cond, BitVec.toNat_add,
      BitVec.toNat_ofNat, Bool.beq_eq_decide_eq, bne, ← decide_not, ← Bool.decide_and, ← Bool.decide_or, boolToInt]
    rw [decide_eq_decide]
    simp only [decide_eq_decide]
    split <;> split <;> omega
  rw [← hv]
  simp only [addExact, ExactSum.mk.injEq, and_self, and_true]
  exact BitVec.eq_of_toNat_eq (by simp)

/-- The exact difference of two words, in the bit form of its overflow. -/
theorem subExact_word (a b : Word) (bin : Bool) :
    subExact a b bin =
      { val := a - b - BitVec.ofNat 16 bin.toNat
        c := decide (a.toNat < b.toNat + bin.toNat)
        v := a.msb != b.msb && (a - b - BitVec.ofNat 16 bin.toNat).msb != a.msb } := by
  have hv : (subExact a b bin).v = (a.msb != b.msb && (a - b - BitVec.ofNat 16 bin.toNat).msb != a.msb) := by
    have ha := a.isLt
    have hb := b.isLt
    have hc : bin.toNat ≤ 1 := Bool.toNat_le bin
    simp only [subExact, outOfRange, BitVec.msb_eq_decide, BitVec.toInt_eq_toNat_cond, BitVec.toNat_sub,
      BitVec.toNat_ofNat, Bool.beq_eq_decide_eq, bne, ← decide_not, ← Bool.decide_and, ← Bool.decide_or, boolToInt]
    rw [decide_eq_decide]
    simp only [decide_eq_decide]
    split <;> split <;> omega
  rw [← hv]; rfl

theorem addFlagged_word (a b : Word) (cin : Bool) :
    (addExact a b cin).flagged b = sumResult a b cin (fun r => decide (r = 0)) := by
  simp only [addExact_word, ExactSum.flagged, sumResult, eOf_word, zOf_eq, nOf]

theorem addFlaggedChained_word (a b : Word) (cin z : Bool) :
    (addExact a b cin).flaggedChained b z = sumResult a b cin (fun r => decide (r = 0) && z) := by
  simp only [addExact_word, ExactSum.flaggedChained, sumResult, eOf_word, zOf_eq, nOf]

theorem subFlagged_word (a b : Word) (bin : Bool) :
    (subExact a b bin).flagged b = differenceResult a b bin (fun r => decide (r = 0)) := by
  simp only [subExact_word, ExactSum.flagged, differenceResult, eOf_word, zOf_eq, nOf]

theorem subFlaggedChained_word (a b : Word) (bin z : Bool) :
    (subExact a b bin).flaggedChained b z = differenceResult a b bin (fun r => decide (r = 0) && z) := by
  simp only [subExact_word, ExactSum.flaggedChained, differenceResult, eOf_word, zOf_eq, nOf]

theorem compareFlags_word (a b : Word) :
    compareFlags a b = (differenceResult a b false (fun r => decide (r = 0))).flags := by
  rw [compareFlags, subFlagged_word]

theorem logicFlagged_word (r b : Word) : logicFlagged r b = logicResult r b := by
  simp only [logicFlagged, logicResult, eOf_word, zOf_eq, nOf]

theorem moveFlags_word (f : Flags) (v : Word) : moveFlags f v = movedFlags f v := by
  simp only [moveFlags, movedFlags, eOf_word, zOf_eq, nOf]

/-- The exact sum of two bytes, in the bit forms of its value and overflow. -/
theorem addExact_byte (a b : Byte) (cin : Bool) :
    addExact a b cin =
      { val := a + b + BitVec.ofNat 8 cin.toNat
        c := decide (2 ^ 8 ≤ a.toNat + b.toNat + cin.toNat)
        v := a.msb == b.msb && (a + b + BitVec.ofNat 8 cin.toNat).msb != a.msb } := by
  have hv : (addExact a b cin).v = (a.msb == b.msb && (a + b + BitVec.ofNat 8 cin.toNat).msb != a.msb) := by
    have ha := a.isLt
    have hb := b.isLt
    have hc : cin.toNat ≤ 1 := Bool.toNat_le cin
    simp only [addExact, outOfRange, BitVec.msb_eq_decide, BitVec.toInt_eq_toNat_cond, BitVec.toNat_add,
      BitVec.toNat_ofNat, Bool.beq_eq_decide_eq, bne, ← decide_not, ← Bool.decide_and, ← Bool.decide_or, boolToInt]
    rw [decide_eq_decide]
    simp only [decide_eq_decide]
    split <;> split <;> omega
  rw [← hv]
  simp only [addExact, ExactSum.mk.injEq, and_self, and_true]
  exact BitVec.eq_of_toNat_eq (by simp)

/-- The exact difference of two bytes, in the bit form of its overflow. -/
theorem subExact_byte (a b : Byte) (bin : Bool) :
    subExact a b bin =
      { val := a - b - BitVec.ofNat 8 bin.toNat
        c := decide (a.toNat < b.toNat + bin.toNat)
        v := a.msb != b.msb && (a - b - BitVec.ofNat 8 bin.toNat).msb != a.msb } := by
  have hv : (subExact a b bin).v = (a.msb != b.msb && (a - b - BitVec.ofNat 8 bin.toNat).msb != a.msb) := by
    have ha := a.isLt
    have hb := b.isLt
    have hc : bin.toNat ≤ 1 := Bool.toNat_le bin
    simp only [subExact, outOfRange, BitVec.msb_eq_decide, BitVec.toInt_eq_toNat_cond, BitVec.toNat_sub,
      BitVec.toNat_ofNat, Bool.beq_eq_decide_eq, bne, ← decide_not, ← Bool.decide_and, ← Bool.decide_or, boolToInt]
    rw [decide_eq_decide]
    simp only [decide_eq_decide]
    split <;> split <;> omega
  rw [← hv]; rfl

theorem addFlagged_byte (a b : Byte) (cin : Bool) :
    (addExact a b cin).flagged b = sumResult a b cin (fun r => decide (r = 0)) := by
  simp only [addExact_byte, ExactSum.flagged, sumResult, eOf_byte, zOf_eq, nOf]

theorem addFlaggedChained_byte (a b : Byte) (cin z : Bool) :
    (addExact a b cin).flaggedChained b z = sumResult a b cin (fun r => decide (r = 0) && z) := by
  simp only [addExact_byte, ExactSum.flaggedChained, sumResult, eOf_byte, zOf_eq, nOf]

theorem subFlagged_byte (a b : Byte) (bin : Bool) :
    (subExact a b bin).flagged b = differenceResult a b bin (fun r => decide (r = 0)) := by
  simp only [subExact_byte, ExactSum.flagged, differenceResult, eOf_byte, zOf_eq, nOf]

theorem subFlaggedChained_byte (a b : Byte) (bin z : Bool) :
    (subExact a b bin).flaggedChained b z = differenceResult a b bin (fun r => decide (r = 0) && z) := by
  simp only [subExact_byte, ExactSum.flaggedChained, differenceResult, eOf_byte, zOf_eq, nOf]

theorem compareFlags_byte (a b : Byte) :
    compareFlags a b = (differenceResult a b false (fun r => decide (r = 0))).flags := by
  rw [compareFlags, subFlagged_byte]

theorem logicFlagged_byte (r b : Byte) : logicFlagged r b = logicResult r b := by
  simp only [logicFlagged, logicResult, eOf_byte, zOf_eq, nOf]

theorem moveFlags_byte (f : Flags) (v : Byte) : moveFlags f v = movedFlags f v := by
  simp only [moveFlags, movedFlags, eOf_byte, zOf_eq, nOf]

end Sys2Proof.Machine
end

