-- ==== Sys2Proof/Laws/PerInstr.lean ====
section
/-! SUPPORT. Statements about every instruction, constructor by constructor (LAWS.json). -/

namespace Sys2Proof.Laws

/-- The encoder writes as many bytes as the first byte says (30_encoding.md R122). -/
def EncodeLength.Statement (i : Instr) : Prop :=
  ∃ b0 rest, encode i = b0 :: rest ∧ (encode i).length = lengthOf b0

theorem EncodeLength.addRwRw (n m : Nib) : EncodeLength.Statement (.addRwRw n m) := ⟨_, _, rfl, rfl⟩

theorem EncodeLength.addRwInd (n : Nib) (i : BitVec 2) : EncodeLength.Statement (.addRwInd n i) := ⟨_, _, rfl, rfl⟩

theorem EncodeLength.addRwIndInc (n : Nib) (i : BitVec 2) : EncodeLength.Statement (.addRwIndInc n i) := ⟨_, _, rfl, rfl⟩

theorem EncodeLength.addRwData3 (n : Nib) (data3 : BitVec 3) : EncodeLength.Statement (.addRwData3 n data3) := ⟨_, _, rfl, rfl⟩

theorem EncodeLength.addRegData16 (reg : Byte) (data16 : Word) : EncodeLength.Statement (.addRegData16 reg data16) := ⟨_, _, rfl, rfl⟩

theorem EncodeLength.addRegMem (reg : Byte) (mem : Word) : EncodeLength.Statement (.addRegMem reg mem) := ⟨_, _, rfl, rfl⟩

theorem EncodeLength.addMemReg (mem : Word) (reg : Byte) : EncodeLength.Statement (.addMemReg mem reg) := ⟨_, _, rfl, rfl⟩

theorem EncodeLength.addbRbRb (n m : Nib) : EncodeLength.Statement (.addbRbRb n m) := ⟨_, _, rfl, rfl⟩

theorem EncodeLength.addbRbInd (n : Nib) (i : BitVec 2) : EncodeLength.Statement (.addbRbInd n i) := ⟨_, _, rfl, rfl⟩

theorem EncodeLength.addbRbIndInc (n : Nib) (i : BitVec 2) : EncodeLength.Statement (.addbRbIndInc n i) := ⟨_, _, rfl, rfl⟩

theorem EncodeLength.addbRbData3 (n : Nib) (data3 : BitVec 3) : EncodeLength.Statement (.addbRbData3 n data3) := ⟨_, _, rfl, rfl⟩

theorem EncodeLength.addbRegData8 (reg data8 : Byte) : EncodeLength.Statement (.addbRegData8 reg data8) := ⟨_, _, rfl, rfl⟩

theorem EncodeLength.addbRegMem (reg : Byte) (mem : Word) : EncodeLength.Statement (.addbRegMem reg mem) := ⟨_, _, rfl, rfl⟩

theorem EncodeLength.addbMemReg (mem : Word) (reg : Byte) : EncodeLength.Statement (.addbMemReg mem reg) := ⟨_, _, rfl, rfl⟩

theorem EncodeLength.addcRwRw (n m : Nib) : EncodeLength.Statement (.addcRwRw n m) := ⟨_, _, rfl, rfl⟩

theorem EncodeLength.addcRwInd (n : Nib) (i : BitVec 2) : EncodeLength.Statement (.addcRwInd n i) := ⟨_, _, rfl, rfl⟩

theorem EncodeLength.addcRwIndInc (n : Nib) (i : BitVec 2) : EncodeLength.Statement (.addcRwIndInc n i) := ⟨_, _, rfl, rfl⟩

theorem EncodeLength.addcRwData3 (n : Nib) (data3 : BitVec 3) : EncodeLength.Statement (.addcRwData3 n data3) := ⟨_, _, rfl, rfl⟩

theorem EncodeLength.addcRegData16 (reg : Byte) (data16 : Word) : EncodeLength.Statement (.addcRegData16 reg data16) := ⟨_, _, rfl, rfl⟩

theorem EncodeLength.addcRegMem (reg : Byte) (mem : Word) : EncodeLength.Statement (.addcRegMem reg mem) := ⟨_, _, rfl, rfl⟩

theorem EncodeLength.addcMemReg (mem : Word) (reg : Byte) : EncodeLength.Statement (.addcMemReg mem reg) := ⟨_, _, rfl, rfl⟩

theorem EncodeLength.addcbRbRb (n m : Nib) : EncodeLength.Statement (.addcbRbRb n m) := ⟨_, _, rfl, rfl⟩

theorem EncodeLength.addcbRbInd (n : Nib) (i : BitVec 2) : EncodeLength.Statement (.addcbRbInd n i) := ⟨_, _, rfl, rfl⟩

theorem EncodeLength.addcbRbIndInc (n : Nib) (i : BitVec 2) : EncodeLength.Statement (.addcbRbIndInc n i) := ⟨_, _, rfl, rfl⟩

theorem EncodeLength.addcbRbData3 (n : Nib) (data3 : BitVec 3) : EncodeLength.Statement (.addcbRbData3 n data3) := ⟨_, _, rfl, rfl⟩

theorem EncodeLength.addcbRegData8 (reg data8 : Byte) : EncodeLength.Statement (.addcbRegData8 reg data8) := ⟨_, _, rfl, rfl⟩

theorem EncodeLength.addcbRegMem (reg : Byte) (mem : Word) : EncodeLength.Statement (.addcbRegMem reg mem) := ⟨_, _, rfl, rfl⟩

theorem EncodeLength.addcbMemReg (mem : Word) (reg : Byte) : EncodeLength.Statement (.addcbMemReg mem reg) := ⟨_, _, rfl, rfl⟩

theorem EncodeLength.subRwRw (n m : Nib) : EncodeLength.Statement (.subRwRw n m) := ⟨_, _, rfl, rfl⟩

theorem EncodeLength.subRwInd (n : Nib) (i : BitVec 2) : EncodeLength.Statement (.subRwInd n i) := ⟨_, _, rfl, rfl⟩

theorem EncodeLength.subRwIndInc (n : Nib) (i : BitVec 2) : EncodeLength.Statement (.subRwIndInc n i) := ⟨_, _, rfl, rfl⟩

theorem EncodeLength.subRwData3 (n : Nib) (data3 : BitVec 3) : EncodeLength.Statement (.subRwData3 n data3) := ⟨_, _, rfl, rfl⟩

theorem EncodeLength.subRegData16 (reg : Byte) (data16 : Word) : EncodeLength.Statement (.subRegData16 reg data16) := ⟨_, _, rfl, rfl⟩

theorem EncodeLength.subRegMem (reg : Byte) (mem : Word) : EncodeLength.Statement (.subRegMem reg mem) := ⟨_, _, rfl, rfl⟩

theorem EncodeLength.subMemReg (mem : Word) (reg : Byte) : EncodeLength.Statement (.subMemReg mem reg) := ⟨_, _, rfl, rfl⟩

theorem EncodeLength.subbRbRb (n m : Nib) : EncodeLength.Statement (.subbRbRb n m) := ⟨_, _, rfl, rfl⟩

theorem EncodeLength.subbRbInd (n : Nib) (i : BitVec 2) : EncodeLength.Statement (.subbRbInd n i) := ⟨_, _, rfl, rfl⟩

theorem EncodeLength.subbRbIndInc (n : Nib) (i : BitVec 2) : EncodeLength.Statement (.subbRbIndInc n i) := ⟨_, _, rfl, rfl⟩

theorem EncodeLength.subbRbData3 (n : Nib) (data3 : BitVec 3) : EncodeLength.Statement (.subbRbData3 n data3) := ⟨_, _, rfl, rfl⟩

theorem EncodeLength.subbRegData8 (reg data8 : Byte) : EncodeLength.Statement (.subbRegData8 reg data8) := ⟨_, _, rfl, rfl⟩

theorem EncodeLength.subbRegMem (reg : Byte) (mem : Word) : EncodeLength.Statement (.subbRegMem reg mem) := ⟨_, _, rfl, rfl⟩

theorem EncodeLength.subbMemReg (mem : Word) (reg : Byte) : EncodeLength.Statement (.subbMemReg mem reg) := ⟨_, _, rfl, rfl⟩

theorem EncodeLength.subcRwRw (n m : Nib) : EncodeLength.Statement (.subcRwRw n m) := ⟨_, _, rfl, rfl⟩

theorem EncodeLength.subcRwInd (n : Nib) (i : BitVec 2) : EncodeLength.Statement (.subcRwInd n i) := ⟨_, _, rfl, rfl⟩

theorem EncodeLength.subcRwIndInc (n : Nib) (i : BitVec 2) : EncodeLength.Statement (.subcRwIndInc n i) := ⟨_, _, rfl, rfl⟩

theorem EncodeLength.subcRwData3 (n : Nib) (data3 : BitVec 3) : EncodeLength.Statement (.subcRwData3 n data3) := ⟨_, _, rfl, rfl⟩

theorem EncodeLength.subcRegData16 (reg : Byte) (data16 : Word) : EncodeLength.Statement (.subcRegData16 reg data16) := ⟨_, _, rfl, rfl⟩

theorem EncodeLength.subcRegMem (reg : Byte) (mem : Word) : EncodeLength.Statement (.subcRegMem reg mem) := ⟨_, _, rfl, rfl⟩

theorem EncodeLength.subcMemReg (mem : Word) (reg : Byte) : EncodeLength.Statement (.subcMemReg mem reg) := ⟨_, _, rfl, rfl⟩

theorem EncodeLength.subcbRbRb (n m : Nib) : EncodeLength.Statement (.subcbRbRb n m) := ⟨_, _, rfl, rfl⟩

theorem EncodeLength.subcbRbInd (n : Nib) (i : BitVec 2) : EncodeLength.Statement (.subcbRbInd n i) := ⟨_, _, rfl, rfl⟩

theorem EncodeLength.subcbRbIndInc (n : Nib) (i : BitVec 2) : EncodeLength.Statement (.subcbRbIndInc n i) := ⟨_, _, rfl, rfl⟩

theorem EncodeLength.subcbRbData3 (n : Nib) (data3 : BitVec 3) : EncodeLength.Statement (.subcbRbData3 n data3) := ⟨_, _, rfl, rfl⟩

theorem EncodeLength.subcbRegData8 (reg data8 : Byte) : EncodeLength.Statement (.subcbRegData8 reg data8) := ⟨_, _, rfl, rfl⟩

theorem EncodeLength.subcbRegMem (reg : Byte) (mem : Word) : EncodeLength.Statement (.subcbRegMem reg mem) := ⟨_, _, rfl, rfl⟩

theorem EncodeLength.subcbMemReg (mem : Word) (reg : Byte) : EncodeLength.Statement (.subcbMemReg mem reg) := ⟨_, _, rfl, rfl⟩

theorem EncodeLength.cmpRwRw (n m : Nib) : EncodeLength.Statement (.cmpRwRw n m) := ⟨_, _, rfl, rfl⟩

theorem EncodeLength.cmpRwInd (n : Nib) (i : BitVec 2) : EncodeLength.Statement (.cmpRwInd n i) := ⟨_, _, rfl, rfl⟩

theorem EncodeLength.cmpRwIndInc (n : Nib) (i : BitVec 2) : EncodeLength.Statement (.cmpRwIndInc n i) := ⟨_, _, rfl, rfl⟩

theorem EncodeLength.cmpRwData3 (n : Nib) (data3 : BitVec 3) : EncodeLength.Statement (.cmpRwData3 n data3) := ⟨_, _, rfl, rfl⟩

theorem EncodeLength.cmpRegData16 (reg : Byte) (data16 : Word) : EncodeLength.Statement (.cmpRegData16 reg data16) := ⟨_, _, rfl, rfl⟩

theorem EncodeLength.cmpRegMem (reg : Byte) (mem : Word) : EncodeLength.Statement (.cmpRegMem reg mem) := ⟨_, _, rfl, rfl⟩

theorem EncodeLength.cmpbRbRb (n m : Nib) : EncodeLength.Statement (.cmpbRbRb n m) := ⟨_, _, rfl, rfl⟩

theorem EncodeLength.cmpbRbInd (n : Nib) (i : BitVec 2) : EncodeLength.Statement (.cmpbRbInd n i) := ⟨_, _, rfl, rfl⟩

theorem EncodeLength.cmpbRbIndInc (n : Nib) (i : BitVec 2) : EncodeLength.Statement (.cmpbRbIndInc n i) := ⟨_, _, rfl, rfl⟩

theorem EncodeLength.cmpbRbData3 (n : Nib) (data3 : BitVec 3) : EncodeLength.Statement (.cmpbRbData3 n data3) := ⟨_, _, rfl, rfl⟩

theorem EncodeLength.cmpbRegData8 (reg data8 : Byte) : EncodeLength.Statement (.cmpbRegData8 reg data8) := ⟨_, _, rfl, rfl⟩

theorem EncodeLength.cmpbRegMem (reg : Byte) (mem : Word) : EncodeLength.Statement (.cmpbRegMem reg mem) := ⟨_, _, rfl, rfl⟩

theorem EncodeLength.xorRwRw (n m : Nib) : EncodeLength.Statement (.xorRwRw n m) := ⟨_, _, rfl, rfl⟩

theorem EncodeLength.xorRwInd (n : Nib) (i : BitVec 2) : EncodeLength.Statement (.xorRwInd n i) := ⟨_, _, rfl, rfl⟩

theorem EncodeLength.xorRwIndInc (n : Nib) (i : BitVec 2) : EncodeLength.Statement (.xorRwIndInc n i) := ⟨_, _, rfl, rfl⟩

theorem EncodeLength.xorRwData3 (n : Nib) (data3 : BitVec 3) : EncodeLength.Statement (.xorRwData3 n data3) := ⟨_, _, rfl, rfl⟩

theorem EncodeLength.xorRegData16 (reg : Byte) (data16 : Word) : EncodeLength.Statement (.xorRegData16 reg data16) := ⟨_, _, rfl, rfl⟩

theorem EncodeLength.xorRegMem (reg : Byte) (mem : Word) : EncodeLength.Statement (.xorRegMem reg mem) := ⟨_, _, rfl, rfl⟩

theorem EncodeLength.xorMemReg (mem : Word) (reg : Byte) : EncodeLength.Statement (.xorMemReg mem reg) := ⟨_, _, rfl, rfl⟩

theorem EncodeLength.xorbRbRb (n m : Nib) : EncodeLength.Statement (.xorbRbRb n m) := ⟨_, _, rfl, rfl⟩

theorem EncodeLength.xorbRbInd (n : Nib) (i : BitVec 2) : EncodeLength.Statement (.xorbRbInd n i) := ⟨_, _, rfl, rfl⟩

theorem EncodeLength.xorbRbIndInc (n : Nib) (i : BitVec 2) : EncodeLength.Statement (.xorbRbIndInc n i) := ⟨_, _, rfl, rfl⟩

theorem EncodeLength.xorbRbData3 (n : Nib) (data3 : BitVec 3) : EncodeLength.Statement (.xorbRbData3 n data3) := ⟨_, _, rfl, rfl⟩

theorem EncodeLength.xorbRegData8 (reg data8 : Byte) : EncodeLength.Statement (.xorbRegData8 reg data8) := ⟨_, _, rfl, rfl⟩

theorem EncodeLength.xorbRegMem (reg : Byte) (mem : Word) : EncodeLength.Statement (.xorbRegMem reg mem) := ⟨_, _, rfl, rfl⟩

theorem EncodeLength.xorbMemReg (mem : Word) (reg : Byte) : EncodeLength.Statement (.xorbMemReg mem reg) := ⟨_, _, rfl, rfl⟩

theorem EncodeLength.andRwRw (n m : Nib) : EncodeLength.Statement (.andRwRw n m) := ⟨_, _, rfl, rfl⟩

theorem EncodeLength.andRwInd (n : Nib) (i : BitVec 2) : EncodeLength.Statement (.andRwInd n i) := ⟨_, _, rfl, rfl⟩

theorem EncodeLength.andRwIndInc (n : Nib) (i : BitVec 2) : EncodeLength.Statement (.andRwIndInc n i) := ⟨_, _, rfl, rfl⟩

theorem EncodeLength.andRwData3 (n : Nib) (data3 : BitVec 3) : EncodeLength.Statement (.andRwData3 n data3) := ⟨_, _, rfl, rfl⟩

theorem EncodeLength.andRegData16 (reg : Byte) (data16 : Word) : EncodeLength.Statement (.andRegData16 reg data16) := ⟨_, _, rfl, rfl⟩

theorem EncodeLength.andRegMem (reg : Byte) (mem : Word) : EncodeLength.Statement (.andRegMem reg mem) := ⟨_, _, rfl, rfl⟩

theorem EncodeLength.andMemReg (mem : Word) (reg : Byte) : EncodeLength.Statement (.andMemReg mem reg) := ⟨_, _, rfl, rfl⟩

theorem EncodeLength.andbRbRb (n m : Nib) : EncodeLength.Statement (.andbRbRb n m) := ⟨_, _, rfl, rfl⟩

theorem EncodeLength.andbRbInd (n : Nib) (i : BitVec 2) : EncodeLength.Statement (.andbRbInd n i) := ⟨_, _, rfl, rfl⟩

theorem EncodeLength.andbRbIndInc (n : Nib) (i : BitVec 2) : EncodeLength.Statement (.andbRbIndInc n i) := ⟨_, _, rfl, rfl⟩

theorem EncodeLength.andbRbData3 (n : Nib) (data3 : BitVec 3) : EncodeLength.Statement (.andbRbData3 n data3) := ⟨_, _, rfl, rfl⟩

theorem EncodeLength.andbRegData8 (reg data8 : Byte) : EncodeLength.Statement (.andbRegData8 reg data8) := ⟨_, _, rfl, rfl⟩

theorem EncodeLength.andbRegMem (reg : Byte) (mem : Word) : EncodeLength.Statement (.andbRegMem reg mem) := ⟨_, _, rfl, rfl⟩

theorem EncodeLength.andbMemReg (mem : Word) (reg : Byte) : EncodeLength.Statement (.andbMemReg mem reg) := ⟨_, _, rfl, rfl⟩

theorem EncodeLength.orRwRw (n m : Nib) : EncodeLength.Statement (.orRwRw n m) := ⟨_, _, rfl, rfl⟩

theorem EncodeLength.orRwInd (n : Nib) (i : BitVec 2) : EncodeLength.Statement (.orRwInd n i) := ⟨_, _, rfl, rfl⟩

theorem EncodeLength.orRwIndInc (n : Nib) (i : BitVec 2) : EncodeLength.Statement (.orRwIndInc n i) := ⟨_, _, rfl, rfl⟩

theorem EncodeLength.orRwData3 (n : Nib) (data3 : BitVec 3) : EncodeLength.Statement (.orRwData3 n data3) := ⟨_, _, rfl, rfl⟩

theorem EncodeLength.orRegData16 (reg : Byte) (data16 : Word) : EncodeLength.Statement (.orRegData16 reg data16) := ⟨_, _, rfl, rfl⟩

theorem EncodeLength.orRegMem (reg : Byte) (mem : Word) : EncodeLength.Statement (.orRegMem reg mem) := ⟨_, _, rfl, rfl⟩

theorem EncodeLength.orMemReg (mem : Word) (reg : Byte) : EncodeLength.Statement (.orMemReg mem reg) := ⟨_, _, rfl, rfl⟩

theorem EncodeLength.orbRbRb (n m : Nib) : EncodeLength.Statement (.orbRbRb n m) := ⟨_, _, rfl, rfl⟩

theorem EncodeLength.orbRbInd (n : Nib) (i : BitVec 2) : EncodeLength.Statement (.orbRbInd n i) := ⟨_, _, rfl, rfl⟩

theorem EncodeLength.orbRbIndInc (n : Nib) (i : BitVec 2) : EncodeLength.Statement (.orbRbIndInc n i) := ⟨_, _, rfl, rfl⟩

theorem EncodeLength.orbRbData3 (n : Nib) (data3 : BitVec 3) : EncodeLength.Statement (.orbRbData3 n data3) := ⟨_, _, rfl, rfl⟩

theorem EncodeLength.orbRegData8 (reg data8 : Byte) : EncodeLength.Statement (.orbRegData8 reg data8) := ⟨_, _, rfl, rfl⟩

theorem EncodeLength.orbRegMem (reg : Byte) (mem : Word) : EncodeLength.Statement (.orbRegMem reg mem) := ⟨_, _, rfl, rfl⟩

theorem EncodeLength.orbMemReg (mem : Word) (reg : Byte) : EncodeLength.Statement (.orbMemReg mem reg) := ⟨_, _, rfl, rfl⟩

theorem EncodeLength.mul (n m : Nib) : EncodeLength.Statement (.mul n m) := ⟨_, _, rfl, rfl⟩

theorem EncodeLength.mulu (n m : Nib) : EncodeLength.Statement (.mulu n m) := ⟨_, _, rfl, rfl⟩

theorem EncodeLength.div (n : Nib) : EncodeLength.Statement (.div n) := ⟨_, _, rfl, rfl⟩

theorem EncodeLength.divl (n : Nib) : EncodeLength.Statement (.divl n) := ⟨_, _, rfl, rfl⟩

theorem EncodeLength.divlu (n : Nib) : EncodeLength.Statement (.divlu n) := ⟨_, _, rfl, rfl⟩

theorem EncodeLength.divu (n : Nib) : EncodeLength.Statement (.divu n) := ⟨_, _, rfl, rfl⟩

theorem EncodeLength.cpl (n : Nib) : EncodeLength.Statement (.cpl n) := ⟨_, _, rfl, rfl⟩

theorem EncodeLength.cplb (n : Nib) : EncodeLength.Statement (.cplb n) := ⟨_, _, rfl, rfl⟩

theorem EncodeLength.neg (n : Nib) : EncodeLength.Statement (.neg n) := ⟨_, _, rfl, rfl⟩

theorem EncodeLength.negb (n : Nib) : EncodeLength.Statement (.negb n) := ⟨_, _, rfl, rfl⟩

theorem EncodeLength.bclr (bitoff : Byte) (pos : Nib) : EncodeLength.Statement (.bclr bitoff pos) := ⟨_, _, rfl, by rw [lengthOf_append]; rfl⟩

theorem EncodeLength.bset (bitoff : Byte) (pos : Nib) : EncodeLength.Statement (.bset bitoff pos) := ⟨_, _, rfl, by rw [lengthOf_append]; rfl⟩

theorem EncodeLength.bmov (dst : Byte) (dpos : Nib) (src : Byte) (spos : Nib) : EncodeLength.Statement (.bmov dst dpos src spos) := ⟨_, _, rfl, rfl⟩

theorem EncodeLength.bmovn (dst : Byte) (dpos : Nib) (src : Byte) (spos : Nib) : EncodeLength.Statement (.bmovn dst dpos src spos) := ⟨_, _, rfl, rfl⟩

theorem EncodeLength.band (dst : Byte) (dpos : Nib) (src : Byte) (spos : Nib) : EncodeLength.Statement (.band dst dpos src spos) := ⟨_, _, rfl, rfl⟩

theorem EncodeLength.bor (dst : Byte) (dpos : Nib) (src : Byte) (spos : Nib) : EncodeLength.Statement (.bor dst dpos src spos) := ⟨_, _, rfl, rfl⟩

theorem EncodeLength.bxor (dst : Byte) (dpos : Nib) (src : Byte) (spos : Nib) : EncodeLength.Statement (.bxor dst dpos src spos) := ⟨_, _, rfl, rfl⟩

theorem EncodeLength.bcmp (dst : Byte) (dpos : Nib) (src : Byte) (spos : Nib) : EncodeLength.Statement (.bcmp dst dpos src spos) := ⟨_, _, rfl, rfl⟩

theorem EncodeLength.bfldh (bitoff mask8 data8 : Byte) : EncodeLength.Statement (.bfldh bitoff mask8 data8) := ⟨_, _, rfl, rfl⟩

theorem EncodeLength.bfldl (bitoff mask8 data8 : Byte) : EncodeLength.Statement (.bfldl bitoff mask8 data8) := ⟨_, _, rfl, rfl⟩

theorem EncodeLength.cmpd1RwData4 (n data4 : Nib) : EncodeLength.Statement (.cmpd1RwData4 n data4) := ⟨_, _, rfl, rfl⟩

theorem EncodeLength.cmpd1RwData16 (n : Nib) (data16 : Word) : EncodeLength.Statement (.cmpd1RwData16 n data16) := ⟨_, _, rfl, rfl⟩

theorem EncodeLength.cmpd1RwMem (n : Nib) (mem : Word) : EncodeLength.Statement (.cmpd1RwMem n mem) := ⟨_, _, rfl, rfl⟩

theorem EncodeLength.cmpd2RwData4 (n data4 : Nib) : EncodeLength.Statement (.cmpd2RwData4 n data4) := ⟨_, _, rfl, rfl⟩

theorem EncodeLength.cmpd2RwData16 (n : Nib) (data16 : Word) : EncodeLength.Statement (.cmpd2RwData16 n data16) := ⟨_, _, rfl, rfl⟩

theorem EncodeLength.cmpd2RwMem (n : Nib) (mem : Word) : EncodeLength.Statement (.cmpd2RwMem n mem) := ⟨_, _, rfl, rfl⟩

theorem EncodeLength.cmpi1RwData4 (n data4 : Nib) : EncodeLength.Statement (.cmpi1RwData4 n data4) := ⟨_, _, rfl, rfl⟩

theorem EncodeLength.cmpi1RwData16 (n : Nib) (data16 : Word) : EncodeLength.Statement (.cmpi1RwData16 n data16) := ⟨_, _, rfl, rfl⟩

theorem EncodeLength.cmpi1RwMem (n : Nib) (mem : Word) : EncodeLength.Statement (.cmpi1RwMem n mem) := ⟨_, _, rfl, rfl⟩

theorem EncodeLength.cmpi2RwData4 (n data4 : Nib) : EncodeLength.Statement (.cmpi2RwData4 n data4) := ⟨_, _, rfl, rfl⟩

theorem EncodeLength.cmpi2RwData16 (n : Nib) (data16 : Word) : EncodeLength.Statement (.cmpi2RwData16 n data16) := ⟨_, _, rfl, rfl⟩

theorem EncodeLength.cmpi2RwMem (n : Nib) (mem : Word) : EncodeLength.Statement (.cmpi2RwMem n mem) := ⟨_, _, rfl, rfl⟩

theorem EncodeLength.prior (n m : Nib) : EncodeLength.Statement (.prior n m) := ⟨_, _, rfl, rfl⟩

theorem EncodeLength.shlRwRw (n m : Nib) : EncodeLength.Statement (.shlRwRw n m) := ⟨_, _, rfl, rfl⟩

theorem EncodeLength.shlRwData4 (n data4 : Nib) : EncodeLength.Statement (.shlRwData4 n data4) := ⟨_, _, rfl, rfl⟩

theorem EncodeLength.shrRwRw (n m : Nib) : EncodeLength.Statement (.shrRwRw n m) := ⟨_, _, rfl, rfl⟩

theorem EncodeLength.shrRwData4 (n data4 : Nib) : EncodeLength.Statement (.shrRwData4 n data4) := ⟨_, _, rfl, rfl⟩

theorem EncodeLength.rolRwRw (n m : Nib) : EncodeLength.Statement (.rolRwRw n m) := ⟨_, _, rfl, rfl⟩

theorem EncodeLength.rolRwData4 (n data4 : Nib) : EncodeLength.Statement (.rolRwData4 n data4) := ⟨_, _, rfl, rfl⟩

theorem EncodeLength.rorRwRw (n m : Nib) : EncodeLength.Statement (.rorRwRw n m) := ⟨_, _, rfl, rfl⟩

theorem EncodeLength.rorRwData4 (n data4 : Nib) : EncodeLength.Statement (.rorRwData4 n data4) := ⟨_, _, rfl, rfl⟩

theorem EncodeLength.ashrRwRw (n m : Nib) : EncodeLength.Statement (.ashrRwRw n m) := ⟨_, _, rfl, rfl⟩

theorem EncodeLength.ashrRwData4 (n data4 : Nib) : EncodeLength.Statement (.ashrRwData4 n data4) := ⟨_, _, rfl, rfl⟩

theorem EncodeLength.movRwRw (n m : Nib) : EncodeLength.Statement (.movRwRw n m) := ⟨_, _, rfl, rfl⟩

theorem EncodeLength.movRwData4 (n data4 : Nib) : EncodeLength.Statement (.movRwData4 n data4) := ⟨_, _, rfl, rfl⟩

theorem EncodeLength.movRegData16 (reg : Byte) (data16 : Word) : EncodeLength.Statement (.movRegData16 reg data16) := ⟨_, _, rfl, rfl⟩

theorem EncodeLength.movRwInd (n m : Nib) : EncodeLength.Statement (.movRwInd n m) := ⟨_, _, rfl, rfl⟩

theorem EncodeLength.movRwIndInc (n m : Nib) : EncodeLength.Statement (.movRwIndInc n m) := ⟨_, _, rfl, rfl⟩

theorem EncodeLength.movIndRw (m n : Nib) : EncodeLength.Statement (.movIndRw m n) := ⟨_, _, rfl, rfl⟩

theorem EncodeLength.movPreDecRw (m n : Nib) : EncodeLength.Statement (.movPreDecRw m n) := ⟨_, _, rfl, rfl⟩

theorem EncodeLength.movIndInd (n m : Nib) : EncodeLength.Statement (.movIndInd n m) := ⟨_, _, rfl, rfl⟩

theorem EncodeLength.movIndIncInd (n m : Nib) : EncodeLength.Statement (.movIndIncInd n m) := ⟨_, _, rfl, rfl⟩

theorem EncodeLength.movIndIndInc (n m : Nib) : EncodeLength.Statement (.movIndIndInc n m) := ⟨_, _, rfl, rfl⟩

theorem EncodeLength.movRwDisp (n m : Nib) (disp : Word) : EncodeLength.Statement (.movRwDisp n m disp) := ⟨_, _, rfl, rfl⟩

theorem EncodeLength.movDispRw (m : Nib) (disp : Word) (n : Nib) : EncodeLength.Statement (.movDispRw m disp n) := ⟨_, _, rfl, rfl⟩

theorem EncodeLength.movIndMem (n : Nib) (mem : Word) : EncodeLength.Statement (.movIndMem n mem) := ⟨_, _, rfl, rfl⟩

theorem EncodeLength.movMemInd (mem : Word) (n : Nib) : EncodeLength.Statement (.movMemInd mem n) := ⟨_, _, rfl, rfl⟩

theorem EncodeLength.movRegMem (reg : Byte) (mem : Word) : EncodeLength.Statement (.movRegMem reg mem) := ⟨_, _, rfl, rfl⟩

theorem EncodeLength.movMemReg (mem : Word) (reg : Byte) : EncodeLength.Statement (.movMemReg mem reg) := ⟨_, _, rfl, rfl⟩

theorem EncodeLength.movbRbRb (n m : Nib) : EncodeLength.Statement (.movbRbRb n m) := ⟨_, _, rfl, rfl⟩

theorem EncodeLength.movbRbData4 (n data4 : Nib) : EncodeLength.Statement (.movbRbData4 n data4) := ⟨_, _, rfl, rfl⟩

theorem EncodeLength.movbRegData8 (reg data8 : Byte) : EncodeLength.Statement (.movbRegData8 reg data8) := ⟨_, _, rfl, rfl⟩

theorem EncodeLength.movbRbInd (n m : Nib) : EncodeLength.Statement (.movbRbInd n m) := ⟨_, _, rfl, rfl⟩

theorem EncodeLength.movbRbIndInc (n m : Nib) : EncodeLength.Statement (.movbRbIndInc n m) := ⟨_, _, rfl, rfl⟩

theorem EncodeLength.movbIndRb (m n : Nib) : EncodeLength.Statement (.movbIndRb m n) := ⟨_, _, rfl, rfl⟩

theorem EncodeLength.movbPreDecRb (m n : Nib) : EncodeLength.Statement (.movbPreDecRb m n) := ⟨_, _, rfl, rfl⟩

theorem EncodeLength.movbIndInd (n m : Nib) : EncodeLength.Statement (.movbIndInd n m) := ⟨_, _, rfl, rfl⟩

theorem EncodeLength.movbIndIncInd (n m : Nib) : EncodeLength.Statement (.movbIndIncInd n m) := ⟨_, _, rfl, rfl⟩

theorem EncodeLength.movbIndIndInc (n m : Nib) : EncodeLength.Statement (.movbIndIndInc n m) := ⟨_, _, rfl, rfl⟩

theorem EncodeLength.movbRbDisp (n m : Nib) (disp : Word) : EncodeLength.Statement (.movbRbDisp n m disp) := ⟨_, _, rfl, rfl⟩

theorem EncodeLength.movbDispRb (m : Nib) (disp : Word) (n : Nib) : EncodeLength.Statement (.movbDispRb m disp n) := ⟨_, _, rfl, rfl⟩

theorem EncodeLength.movbIndMem (n : Nib) (mem : Word) : EncodeLength.Statement (.movbIndMem n mem) := ⟨_, _, rfl, rfl⟩

theorem EncodeLength.movbMemInd (mem : Word) (n : Nib) : EncodeLength.Statement (.movbMemInd mem n) := ⟨_, _, rfl, rfl⟩

theorem EncodeLength.movbRegMem (reg : Byte) (mem : Word) : EncodeLength.Statement (.movbRegMem reg mem) := ⟨_, _, rfl, rfl⟩

theorem EncodeLength.movbMemReg (mem : Word) (reg : Byte) : EncodeLength.Statement (.movbMemReg mem reg) := ⟨_, _, rfl, rfl⟩

theorem EncodeLength.movbsRwRb (n m : Nib) : EncodeLength.Statement (.movbsRwRb n m) := ⟨_, _, rfl, rfl⟩

theorem EncodeLength.movbsRegMem (reg : Byte) (mem : Word) : EncodeLength.Statement (.movbsRegMem reg mem) := ⟨_, _, rfl, rfl⟩

theorem EncodeLength.movbsMemReg (mem : Word) (reg : Byte) : EncodeLength.Statement (.movbsMemReg mem reg) := ⟨_, _, rfl, rfl⟩

theorem EncodeLength.movbzRwRb (n m : Nib) : EncodeLength.Statement (.movbzRwRb n m) := ⟨_, _, rfl, rfl⟩

theorem EncodeLength.movbzRegMem (reg : Byte) (mem : Word) : EncodeLength.Statement (.movbzRegMem reg mem) := ⟨_, _, rfl, rfl⟩

theorem EncodeLength.movbzMemReg (mem : Word) (reg : Byte) : EncodeLength.Statement (.movbzMemReg mem reg) := ⟨_, _, rfl, rfl⟩

theorem EncodeLength.jmpa (cc : Nib) (caddr : Word) : EncodeLength.Statement (.jmpa cc caddr) := ⟨_, _, rfl, rfl⟩

theorem EncodeLength.jmpi (cc n : Nib) : EncodeLength.Statement (.jmpi cc n) := ⟨_, _, rfl, rfl⟩

theorem EncodeLength.jmpr (cc : Nib) (rel : Byte) : EncodeLength.Statement (.jmpr cc rel) := ⟨_, _, rfl, by rw [lengthOf_append]; rfl⟩

theorem EncodeLength.jmps (seg : Byte) (caddr : Word) : EncodeLength.Statement (.jmps seg caddr) := ⟨_, _, rfl, rfl⟩

theorem EncodeLength.jb (bitoff : Byte) (pos : Nib) (rel : Byte) : EncodeLength.Statement (.jb bitoff pos rel) := ⟨_, _, rfl, rfl⟩

theorem EncodeLength.jbc (bitoff : Byte) (pos : Nib) (rel : Byte) : EncodeLength.Statement (.jbc bitoff pos rel) := ⟨_, _, rfl, rfl⟩

theorem EncodeLength.jnb (bitoff : Byte) (pos : Nib) (rel : Byte) : EncodeLength.Statement (.jnb bitoff pos rel) := ⟨_, _, rfl, rfl⟩

theorem EncodeLength.jnbs (bitoff : Byte) (pos : Nib) (rel : Byte) : EncodeLength.Statement (.jnbs bitoff pos rel) := ⟨_, _, rfl, rfl⟩

theorem EncodeLength.calla (cc : Nib) (caddr : Word) : EncodeLength.Statement (.calla cc caddr) := ⟨_, _, rfl, rfl⟩

theorem EncodeLength.calli (cc n : Nib) : EncodeLength.Statement (.calli cc n) := ⟨_, _, rfl, rfl⟩

theorem EncodeLength.callr (rel : Byte) : EncodeLength.Statement (.callr rel) := ⟨_, _, rfl, rfl⟩

theorem EncodeLength.calls (seg : Byte) (caddr : Word) : EncodeLength.Statement (.calls seg caddr) := ⟨_, _, rfl, rfl⟩

theorem EncodeLength.pcall (reg : Byte) (caddr : Word) : EncodeLength.Statement (.pcall reg caddr) := ⟨_, _, rfl, rfl⟩

theorem EncodeLength.trap (trap7 : BitVec 7) : EncodeLength.Statement (.trap trap7) := ⟨_, _, rfl, rfl⟩

theorem EncodeLength.pop (reg : Byte) : EncodeLength.Statement (.pop reg) := ⟨_, _, rfl, rfl⟩

theorem EncodeLength.push (reg : Byte) : EncodeLength.Statement (.push reg) := ⟨_, _, rfl, rfl⟩

theorem EncodeLength.scxtRegData16 (reg : Byte) (data16 : Word) : EncodeLength.Statement (.scxtRegData16 reg data16) := ⟨_, _, rfl, rfl⟩

theorem EncodeLength.scxtRegMem (reg : Byte) (mem : Word) : EncodeLength.Statement (.scxtRegMem reg mem) := ⟨_, _, rfl, rfl⟩

theorem EncodeLength.ret : EncodeLength.Statement .ret := ⟨_, _, rfl, rfl⟩

theorem EncodeLength.rets : EncodeLength.Statement .rets := ⟨_, _, rfl, rfl⟩

theorem EncodeLength.retp (reg : Byte) : EncodeLength.Statement (.retp reg) := ⟨_, _, rfl, rfl⟩

theorem EncodeLength.reti : EncodeLength.Statement .reti := ⟨_, _, rfl, rfl⟩

theorem EncodeLength.srst : EncodeLength.Statement .srst := ⟨_, _, rfl, rfl⟩

theorem EncodeLength.idle : EncodeLength.Statement .idle := ⟨_, _, rfl, rfl⟩

theorem EncodeLength.pwrdn : EncodeLength.Statement .pwrdn := ⟨_, _, rfl, rfl⟩

theorem EncodeLength.srvwdt : EncodeLength.Statement .srvwdt := ⟨_, _, rfl, rfl⟩

theorem EncodeLength.diswdt : EncodeLength.Statement .diswdt := ⟨_, _, rfl, rfl⟩

theorem EncodeLength.einit : EncodeLength.Statement .einit := ⟨_, _, rfl, rfl⟩

theorem EncodeLength.atomic (irang2 : BitVec 2) : EncodeLength.Statement (.atomic irang2) := ⟨_, _, rfl, rfl⟩

theorem EncodeLength.extr (irang2 : BitVec 2) : EncodeLength.Statement (.extr irang2) := ⟨_, _, rfl, rfl⟩

theorem EncodeLength.extpRw (m : Nib) (irang2 : BitVec 2) : EncodeLength.Statement (.extpRw m irang2) := ⟨_, _, rfl, rfl⟩

theorem EncodeLength.extpPag (pag10 : BitVec 10) (irang2 : BitVec 2) : EncodeLength.Statement (.extpPag pag10 irang2) := ⟨_, _, rfl, rfl⟩

theorem EncodeLength.extprRw (m : Nib) (irang2 : BitVec 2) : EncodeLength.Statement (.extprRw m irang2) := ⟨_, _, rfl, rfl⟩

theorem EncodeLength.extprPag (pag10 : BitVec 10) (irang2 : BitVec 2) : EncodeLength.Statement (.extprPag pag10 irang2) := ⟨_, _, rfl, rfl⟩

theorem EncodeLength.extsRw (m : Nib) (irang2 : BitVec 2) : EncodeLength.Statement (.extsRw m irang2) := ⟨_, _, rfl, rfl⟩

theorem EncodeLength.extsSeg (seg8 : Byte) (irang2 : BitVec 2) : EncodeLength.Statement (.extsSeg seg8 irang2) := ⟨_, _, rfl, rfl⟩

theorem EncodeLength.extsrRw (m : Nib) (irang2 : BitVec 2) : EncodeLength.Statement (.extsrRw m irang2) := ⟨_, _, rfl, rfl⟩

theorem EncodeLength.extsrSeg (seg8 : Byte) (irang2 : BitVec 2) : EncodeLength.Statement (.extsrSeg seg8 irang2) := ⟨_, _, rfl, rfl⟩

theorem EncodeLength.nop : EncodeLength.Statement .nop := ⟨_, _, rfl, rfl⟩

end Sys2Proof.Laws
end

