-- ==== Sys2Proof/Laws/Stack.lean ====
section
/-! SUPPORT. Pushes and pops on a stack that lies in memory (20_memory.md R98), and what the entries and returns built
on them answer. -/

namespace Sys2Proof.Machine

/-- The state after a push on a stack in memory. -/
def pushed (s : State) (v : Word) : State := { s with sp := s.sp - 2 }.storeWord (stackBelow s 1) v

/-- The state after a pop. -/
def popped (s : State) : State := { s with sp := s.sp + 2 }

theorem even_add_twice {x : Word} (h : x.toNat % 2 = 0) (k : Nat) : (x + BitVec.ofNat 16 (2 * k)).toNat % 2 = 0 := by
  rw [BitVec.toNat_add, BitVec.toNat_ofNat]; omega

theorem even_sub_twice {x : Word} (h : x.toNat % 2 = 0) (k : Nat) : (x - BitVec.ofNat 16 (2 * k)).toNat % 2 = 0 := by
  rw [BitVec.toNat_sub, BitVec.toNat_ofNat]; omega

theorem roomBelow_even {s : State} {k : Nat} (h : roomBelow s k = true) : s.sp.toNat % 2 = 0 := by
  simp only [roomBelow, Bool.and_eq_true, beq_iff_eq] at h; exact h.1

theorem wordsAbove_even {s : State} {k : Nat} (h : wordsAbove s k = true) : s.sp.toNat % 2 = 0 := by
  simp only [wordsAbove, Bool.and_eq_true, beq_iff_eq] at h; exact h.1

theorem plainWord_below {s : State} {k j : Nat} (h : roomBelow s k = true) (hj : j < k) :
    isPlainWord s (stackBelow s (j + 1)) = true := by
  simp only [roomBelow, Bool.and_eq_true, List.all_eq_true, List.mem_range] at h; exact h.2 j hj

theorem plainWord_above {s : State} {k j : Nat} (h : wordsAbove s k = true) (hj : j < k) :
    isPlainWord s (stackAbove s j) = true := by
  simp only [wordsAbove, Bool.and_eq_true, List.all_eq_true, List.mem_range] at h; exact h.2 j hj

theorem plain_below {s : State} {k j : Nat} (h : roomBelow s k = true) (hj : j < k) :
    isPlain s (stackBelow s (j + 1)) = true := (plain_of_plainWord (plainWord_below h hj)).1

theorem plain_above {s : State} {k j : Nat} (h : wordsAbove s k = true) (hj : j < k) :
    isPlain s (stackAbove s j) = true := (plain_of_plainWord (plainWord_above h hj)).1

theorem stackBelow_one (s : State) : stackBelow s 1 = (s.sp - 2).toNat := rfl

theorem stackBelow_even {s : State} (h : s.sp.toNat % 2 = 0) (j : Nat) : stackBelow s j % 2 = 0 :=
  even_sub_twice h j

/-- A push on a stack in memory. -/
theorem push_plain {s : State} {k : Nat} (h : roomBelow s (k + 1) = true) (v : Word) : push s v = .ok (pushed s v) := by
  have hp := plainWord_below h (by omega : 0 < k + 1)
  have hw : canWriteW s (stackBelow s 1) v = true := canWriteW_plain (even_sub_twice (roomBelow_even h) 1) hp
  rw [push_eq (s := s) (v := v) hw,
    putWord_plain (s := { s with sp := s.sp - 2 }) (pa := (s.sp - 2).toNat) (plain_of_plainWord hp).1]
  rfl

@[simp] theorem pushed_sp (s : State) (v : Word) : (pushed s v).sp = s.sp - 2 := rfl
@[simp] theorem pushed_cfg (s : State) (v : Word) : (pushed s v).cfg = s.cfg := rfl

theorem stackBelow_pushed (s : State) (v : Word) (j : Nat) : stackBelow (pushed s v) j = stackBelow s (j + 1) := by
  simp only [stackBelow, pushed_sp]
  congr 1
  apply BitVec.eq_of_toNat_eq
  have h2 : (2 : Word).toNat = 2 := rfl
  simp only [BitVec.toNat_sub, BitVec.toNat_ofNat, h2]
  omega

/-- One word less is free after a push. -/
theorem roomBelow_pushed {s : State} {k : Nat} (h : roomBelow s (k + 1) = true) (v : Word) :
    roomBelow (pushed s v) k = true := by
  simp only [roomBelow, Bool.and_eq_true, beq_iff_eq, List.all_eq_true, List.mem_range, stackBelow_pushed]
  exact ⟨even_sub_twice (roomBelow_even h) 1, fun j hj => plainWord_below (j := j + 1) h (by omega)⟩

theorem roomBelow_mono {s : State} {j k : Nat} (h : roomBelow s k = true) (hj : j ≤ k) : roomBelow s j = true := by
  simp only [roomBelow, Bool.and_eq_true, beq_iff_eq, List.all_eq_true, List.mem_range]
  exact ⟨roomBelow_even h, fun i hi => plainWord_below h (by omega)⟩

/-- A pop from a stack in memory. -/
theorem pop_plain {s : State} {k : Nat} (h : wordsAbove s (k + 1) = true) :
    pop s = .ok (s.wordAt (stackAbove s 0), popped s) := by
  have hp := plainWord_above h (by omega : 0 < k + 1)
  have e : stackAbove s 0 = s.sp.toNat := by simp [stackAbove]
  rw [e] at hp ⊢
  exact pop_eq (canReadW_plain (wordsAbove_even h) hp)

theorem stackAbove_popped (s : State) (j : Nat) : stackAbove (popped s) j = stackAbove s (j + 1) := by
  simp only [stackAbove, popped]
  congr 1
  apply BitVec.eq_of_toNat_eq
  have h2 : (2 : Word).toNat = 2 := rfl
  simp only [BitVec.toNat_add, BitVec.toNat_ofNat, h2]
  omega

theorem wordsAbove_popped {s : State} {k : Nat} (h : wordsAbove s (k + 1) = true) : wordsAbove (popped s) k = true := by
  simp only [wordsAbove, Bool.and_eq_true, beq_iff_eq, List.all_eq_true, List.mem_range, stackAbove_popped]
  exact ⟨even_add_twice (wordsAbove_even h) 1, fun j hj => plainWord_above (j := j + 1) h (by omega)⟩

theorem pushed_two (s : State) (v w : Word) :
    pushed (pushed s v) w = ({ s with sp := s.sp - 4 }.storeWord (stackBelow s 1) v).storeWord (stackBelow s 2) w := by
  have e : s.sp - 2 - 2 = s.sp - 4 := by rw [BitVec.sub_sub]; rfl
  have e2 : stackBelow (pushed s v) 1 = stackBelow s 2 := stackBelow_pushed s v 1
  conv => lhs; rw [pushed, e2]
  simp only [pushed_sp, e]; rfl

theorem pushed_three (s : State) (v w x : Word) :
    pushed (pushed (pushed s v) w) x =
      (({ s with sp := s.sp - 6 }.storeWord (stackBelow s 1) v).storeWord (stackBelow s 2) w).storeWord
        (stackBelow s 3) x := by
  have e : s.sp - 2 - 2 - 2 = s.sp - 6 := by rw [BitVec.sub_sub, BitVec.sub_sub]; rfl
  have e2 : stackBelow (pushed (pushed s v) w) 1 = stackBelow s 3 :=
    (stackBelow_pushed _ w 1).trans (stackBelow_pushed s v 2)
  conv => lhs; rw [pushed, e2]
  simp only [pushed_sp, e]
  rw [pushed_two]; rfl

theorem popped_two (s : State) : popped (popped s) = { s with sp := s.sp + 4 } := by
  have e : s.sp + 2 + 2 = s.sp + 4 := by rw [BitVec.add_assoc]; rfl
  simp only [popped, e]

theorem popped_three (s : State) : popped (popped (popped s)) = { s with sp := s.sp + 6 } := by
  have e : s.sp + 2 + 2 + 2 = s.sp + 6 := by rw [BitVec.add_assoc, BitVec.add_assoc]; rfl
  simp only [popped, e]

/-- The common part of TRAP and hardware entry with segmentation enabled. -/
theorem saveAndVector_segmented {s : State} (hs : s.segmentationDisabled = false) (h : roomBelow s 3 = true)
    (old : Word) (number : BitVec 7) (ret : Word) :
    saveAndVector s old number ret =
      .ok { pushed { pushed (pushed s old) (s.csp.setWidth 16) with csp := 0 } ret with ip := 4 * number.setWidth 16 } := by
  have h1 := roomBelow_pushed h old
  have h2 := roomBelow_pushed h1 (s.csp.setWidth 16)
  have h3 : roomBelow { pushed (pushed s old) (s.csp.setWidth 16) with csp := 0 } 1 = true := h2
  have hs1 : (pushed s old).segmentationDisabled = false := hs
  have hc : (pushed s old).csp = s.csp := rfl
  simp only [saveAndVector, push_plain h, ok_bind, hs1, push_plain h1, ok_map, hc, push_plain h3, res_pure,
    Bool.false_eq_true, if_false]

/-- The common part of TRAP and hardware entry with segmentation disabled. -/
theorem saveAndVector_flat {s : State} (hs : s.segmentationDisabled = true) (h : roomBelow s 2 = true)
    (old : Word) (number : BitVec 7) (ret : Word) :
    saveAndVector s old number ret = .ok { pushed (pushed s old) ret with ip := 4 * number.setWidth 16 } := by
  have h1 := roomBelow_pushed h old
  have hs1 : (pushed s old).segmentationDisabled = true := hs
  simp only [saveAndVector, push_plain h, ok_bind, hs1, push_plain h1, res_pure, if_true]

/-- RETI with segmentation enabled. -/
theorem returnFromInterrupt_segmented {s : State} (hs : s.segmentationDisabled = false) (h : wordsAbove s 3 = true) :
    returnFromInterrupt s =
      .ok { popped (popped (popped s)) with
            ip := s.wordAt (stackAbove s 0)
            csp := segOf s.cfg.variant (lowByte (s.wordAt (stackAbove s 1)))
            psw := pswOf s.cfg (s.wordAt (stackAbove s 2)) } := by
  have h1 := wordsAbove_popped h
  have h2 := wordsAbove_popped h1
  have h3 : ∀ c, wordsAbove { popped (popped s) with csp := c } 1 = true := fun _ => h2
  have hs1 : (popped s).segmentationDisabled = false := hs
  have e1 : stackAbove (popped s) 0 = stackAbove s 1 := stackAbove_popped s 0
  have e2 : ∀ c, stackAbove { popped (popped s) with csp := c } 0 = stackAbove s 2 := fun _ =>
    (stackAbove_popped (popped s) 0).trans (stackAbove_popped s 1)
  have w2 : ∀ c a, isPlain s a = true → State.wordAt { popped (popped s) with csp := c } a = s.wordAt a := by
    intro c a ha
    rw [wordAt_plain (s := { popped (popped s) with csp := c }) ha, wordAt_plain ha]; rfl
  have w1 : ∀ a, isPlain s a = true → (popped s).wordAt a = s.wordAt a := by
    intro a ha
    rw [wordAt_plain (s := popped s) ha, wordAt_plain ha]; rfl
  simp only [returnFromInterrupt, pop_plain h, ok_bind, hs1, pop_plain h1, ok_map, pop_plain (h3 _), e1, e2, res_pure,
    Bool.false_eq_true, if_false, w1 _ (plain_above h (by omega : 1 < 3)), w2 _ _ (plain_above h (by omega : 2 < 3))]
  rfl

/-- RETI with segmentation disabled. -/
theorem returnFromInterrupt_flat {s : State} (hs : s.segmentationDisabled = true) (h : wordsAbove s 2 = true) :
    returnFromInterrupt s =
      .ok { popped (popped s) with ip := s.wordAt (stackAbove s 0), psw := pswOf s.cfg (s.wordAt (stackAbove s 1)) } := by
  have h1 := wordsAbove_popped h
  have hs1 : (popped s).segmentationDisabled = true := hs
  have e1 : stackAbove (popped s) 0 = stackAbove s 1 := stackAbove_popped s 0
  have w1 : ∀ a, isPlain s a = true → (popped s).wordAt a = s.wordAt a := by
    intro a ha
    rw [wordAt_plain (s := popped s) ha, wordAt_plain ha]; rfl
  simp only [returnFromInterrupt, pop_plain h, ok_bind, hs1, pop_plain h1, e1, res_pure, if_true,
    w1 _ (plain_above h (by omega : 1 < 2))]
  rfl

/-! ### Hardware entry -/

theorem vector_eq (n : BitVec 7) : (4 : Word) * n.setWidth 16 = BitVec.ofNat 16 (4 * n.toNat) := by
  apply BitVec.eq_of_toNat_eq
  simp [BitVec.toNat_mul]

theorem getLsbD_pswWithLevel (p : Word) (level : Nib) (i : Nat) :
    (pswWithLevel p level).getLsbD i = if i < 12 then p.getLsbD i else level.getLsbD (i - 12) := by
  rw [pswWithLevel, BitVec.getLsbD_append]
  by_cases h : i < 12 <;> simp [h]

theorem level_pswWithLevel (p : Word) (level : Nib) : (pswWithLevel p level).extractLsb' 12 4 = level := by
  apply BitVec.eq_of_getLsbD_eq
  intro i hi
  rw [BitVec.getLsbD_extractLsb', getLsbD_pswWithLevel]
  simp [hi, show ¬12 + i < 12 by omega]

theorem flags_pswWithLevel (p : Word) (level : Nib) : flagsOfPsw (pswWithLevel p level) = flagsOfPsw p := by
  simp only [flagsOfPsw, getLsbD_pswWithLevel]; rfl

theorem low_pswWithLevel (p : Word) (level : Nib) :
    (pswWithLevel p level).extractLsb' 0 12 = p.extractLsb' 0 12 := by
  apply BitVec.eq_of_getLsbD_eq
  intro i hi
  rw [BitVec.getLsbD_extractLsb', BitVec.getLsbD_extractLsb', getLsbD_pswWithLevel]
  simp [hi]

/-- The entry of a hardware trap or interrupt with segmentation enabled. -/
theorem enter_segmented {s : State} (hs : s.segmentationDisabled = false) (h : roomBelow s 3 = true)
    (number : BitVec 7) (ret : Word) (level : Nib) :
    enter s number ret level =
      .ok { (({ s with sp := s.sp - 6 }.storeWord (stackBelow s 1) (pswWord s.cfg s.psw)).storeWord (stackBelow s 2)
              (s.csp.setWidth 16)).storeWord (stackBelow s 3) ret with
            csp := 0, ip := BitVec.ofNat 16 (4 * number.toNat), psw := pswWithLevel s.psw level } := by
  let u : State := { s with psw := pswWithLevel s.psw level }
  have e : enter s number ret level = saveAndVector u (pswWord s.cfg s.psw) number ret := rfl
  have hu : u.segmentationDisabled = false := hs
  have hru : roomBelow u 3 = true := h
  rw [e, saveAndVector_segmented hu hru, ← vector_eq]
  have c : ({ pushed { pushed (pushed u (pswWord s.cfg s.psw)) (u.csp.setWidth 16) with csp := 0 } ret with
              ip := (4 : Word) * number.setWidth 16 } : State) =
      { pushed (pushed (pushed u (pswWord s.cfg s.psw)) (u.csp.setWidth 16)) ret with csp := 0, ip := (4 : Word) * number.setWidth 16 } := rfl
  rw [c, pushed_three]
  rfl

/-- The entry of a hardware trap or interrupt with segmentation disabled. -/
theorem enter_flat {s : State} (hs : s.segmentationDisabled = true) (h : roomBelow s 2 = true)
    (number : BitVec 7) (ret : Word) (level : Nib) :
    enter s number ret level =
      .ok { ({ s with sp := s.sp - 4 }.storeWord (stackBelow s 1) (pswWord s.cfg s.psw)).storeWord (stackBelow s 2) ret with
            ip := BitVec.ofNat 16 (4 * number.toNat), psw := pswWithLevel s.psw level } := by
  let u : State := { s with psw := pswWithLevel s.psw level }
  have e : enter s number ret level = saveAndVector u (pswWord s.cfg s.psw) number ret := rfl
  have hu : u.segmentationDisabled = true := hs
  have hru : roomBelow u 2 = true := h
  rw [e, saveAndVector_flat hu hru, ← vector_eq, pushed_two]
  rfl

/-! ### What a raised class B trap comes to -/

/-- Without HW_TRAP_ENTRY a hardware trap ends the run. -/
theorem raiseTrap_terminal {s : State} (h : s.cfg.hwTrapEntry = false) (t : Trap) (ret : Word) :
    raiseTrap s t ret = .fault (.hardwareTrap t) := by simp [raiseTrap, h]

/-- With HW_TRAP_ENTRY an entry that succeeds is the step. -/
theorem raiseTrap_entered {s u : State} (h : s.cfg.hwTrapEntry = true) {t : Trap} {ret : Word}
    (hu : enterRaised { s.endSequence with tfr := s.tfr ||| trapFlag t } t ret = .ok u) :
    raiseTrap s t ret = .next u := by simp only [raiseTrap, h, if_true, hu]

/-- A class B trap that is taken out of the queue is none that waits. -/
theorem filter_erase_classB (l : List Request) (t : Trap) :
    (l.erase (.classB t)).filter (fun r => !r.isClassB) = l.filter (fun r => !r.isClassB) := by
  induction l with
  | nil => rfl
  | cons r l ih =>
    by_cases h : r = .classB t
    · subst h; simp [Request.isClassB]
    · rw [List.erase_cons_tail (by simpa using h)]; simp only [List.filter_cons, ih]

/-- The entry of a class B trap leaves none that waits: they share it (60_exceptions.md R433). -/
theorem enterTrap_pending {s u : State} {t : Trap} {ret : Word} (h : roomBelow s 3 = true)
    (hu : enterTrap s t ret = .ok u) : u.pending = s.pending.filter (fun r => !r.isClassB) := by
  have hr : roomBelow s.withoutClassB 3 = true := h
  cases hs : s.withoutClassB.segmentationDisabled with
  | false => rw [enterTrap, enter_segmented hs hr] at hu; cases hu; rfl
  | true => rw [enterTrap, enter_flat hs (roomBelow_mono hr (by omega))] at hu; cases hu; rfl

/-- Without a pending NMI the class B routine is entered. -/
theorem enterRaised_alone {s : State} (h : .nmi ∉ s.pending) (t : Trap) (ret : Word) :
    enterRaised s t ret = enterTrap s t ret := by simp [enterRaised, h]

/-- With a pending NMI its routine is entered and the class B trap waits. -/
theorem enterRaised_behind {s : State} (h : .nmi ∈ s.pending) (t : Trap) (ret : Word) :
    enterRaised s t ret = enterNmi { s with pending := s.pending.erase .nmi ++ [.classB t] } ret := by
  simp [enterRaised, h]

end Sys2Proof.Machine
end

