-- ==== Sys2Proof/Tests/Slice0.lean ====
section
/-! SUPPORT. The model's own tests: ill-formed terms refused, words written out from the formats of spec/ decoded, one
step of most instructions against 95_test_vectors.md (the number after `T` names the vector), and a witness for the
hypotheses of every obligation. -/

namespace Sys2Proof.Tests

open Sys2Proof Sys2Proof.Machine

/-! ### Helpers -/

/-- The bytes decode, on the C167 group, to exactly this instruction, with nothing left over. -/
def decodesTo (p : List Byte × Instr) : Bool :=
  match decode .c167 p.1 with
  | .ok (i, []) => i == p.2
  | _ => false

/-- Store words in memory from outside the machine. -/
def withWords (s : State) (words : List (Nat × Word)) : State :=
  words.foldl (fun s p => (s.placeByte p.1 (lowByte p.2)).placeByte (p.1 + 1) (highByte p.2)) s

/-- The start of a vector: the code at 00'0100H, words of memory (a GPR Rn is the word at FC00H + 2n), and PSW. -/
def start (code : List Word) (words : List (Nat × Word)) (psw : Word) : State :=
  withWords { State.reset with ip := 0x100, psw := psw }
    (words ++ code.zipIdx.map (fun p => (0x100 + 2 * p.2, p.1)))

/-- The step answers a next state, of which `p` holds. -/
def leaves (s : State) (p : State → Bool) : Bool :=
  match step s with
  | .next t => p t
  | _ => false

/-- The step ends in this fault. -/
def faults (s : State) (f : Fault) : Bool :=
  match step s with
  | .fault g => g == f
  | _ => false

/-- The step ends in this refusal. -/
def refuses (s : State) (r : Refusal) : Bool :=
  match step s with
  | .refused q => q == r
  | _ => false

/-- The machine on a SAB 8XC166 device. -/
def sab : State := State.powerOn (Config.ofVariant .sab8xc166)

/-! ### Well-formedness: the instructions a SAB 8XC166 device has not (47_system_control.md R398) -/

theorem test_ill_formed_atomic : (Instr.atomic 2).wellFormed .sab8xc166 = false ∧ (Instr.atomic 2).wellFormed .c167 = true := by decide

theorem test_ill_formed_extr : (Instr.extr 2).wellFormed .sab8xc166 = false ∧ (Instr.extr 2).wellFormed .c167 = true := by decide

theorem test_ill_formed_extpRw : (Instr.extpRw 4 2).wellFormed .sab8xc166 = false ∧ (Instr.extpRw 4 2).wellFormed .c167 = true := by decide

theorem test_ill_formed_extpPag : (Instr.extpPag 0x123 2).wellFormed .sab8xc166 = false ∧ (Instr.extpPag 0x123 2).wellFormed .c167 = true := by decide

theorem test_ill_formed_extprRw : (Instr.extprRw 4 2).wellFormed .sab8xc166 = false ∧ (Instr.extprRw 4 2).wellFormed .c167 = true := by decide

theorem test_ill_formed_extprPag : (Instr.extprPag 0x123 2).wellFormed .sab8xc166 = false ∧ (Instr.extprPag 0x123 2).wellFormed .c167 = true := by decide

theorem test_ill_formed_extsRw : (Instr.extsRw 4 2).wellFormed .sab8xc166 = false ∧ (Instr.extsRw 4 2).wellFormed .c167 = true := by decide

theorem test_ill_formed_extsSeg : (Instr.extsSeg 0x12 2).wellFormed .sab8xc166 = false ∧ (Instr.extsSeg 0x12 2).wellFormed .c167 = true := by decide

theorem test_ill_formed_extsrRw : (Instr.extsrRw 4 2).wellFormed .sab8xc166 = false ∧ (Instr.extsrRw 4 2).wellFormed .c167 = true := by decide

theorem test_ill_formed_extsrSeg : (Instr.extsrSeg 0x12 2).wellFormed .sab8xc166 = false ∧ (Instr.extsrSeg 0x12 2).wellFormed .c167 = true := by decide

/-- T237: on the SAB 8XC166 group their first bytes are undefined opcodes. -/
theorem test_sab_first_bytes : decode .sab8xc166 [0xD1, 0x00] = .error .undefinedOpcode ∧
    decode .sab8xc166 [0xD7, 0x00, 0x12, 0x00] = .error .undefinedOpcode ∧ decode .sab8xc166 [0xDC, 0x01] = .error .undefinedOpcode := by decide

/-! ### Decoding: every form, its bytes written out from its format (30_encoding.md R121, R124 to R133) -/

/-- ADD to ADDC (40_arithmetic.md R200 to R202). -/
theorem test_decode_arithmetic_1 : List.all
    [([0x00, 0x5C], .addRwRw 5 0xC), ([0x08, 0x0B], .addRwInd 0 3), ([0x08, 0x5D], .addRwIndInc 5 1),
     ([0x08, 0x07], .addRwData3 0 7), ([0x06, 0xF3, 0x34, 0x12], .addRegData16 0xF3 0x1234),
     ([0x02, 0x5A, 0x02, 0xFC], .addRegMem 0x5A 0xFC02), ([0x04, 0xF3, 0x65, 0x87], .addMemReg 0x8765 0xF3),
     ([0x01, 0x0F], .addbRbRb 0 0xF), ([0x09, 0x59], .addbRbInd 5 1), ([0x09, 0x0F], .addbRbIndInc 0 3),
     ([0x09, 0x55], .addbRbData3 5 5), ([0x07, 0x5A, 0xF0, 0x00], .addbRegData8 0x5A 0xF0),
     ([0x03, 0xF3, 0x65, 0x87], .addbRegMem 0xF3 0x8765), ([0x05, 0x5A, 0x02, 0xFC], .addbMemReg 0xFC02 0x5A),
     ([0x10, 0x5C], .addcRwRw 5 0xC), ([0x18, 0x0B], .addcRwInd 0 3), ([0x18, 0x5D], .addcRwIndInc 5 1),
     ([0x18, 0x07], .addcRwData3 0 7), ([0x16, 0xF3, 0x34, 0x12], .addcRegData16 0xF3 0x1234),
     ([0x12, 0x5A, 0x02, 0xFC], .addcRegMem 0x5A 0xFC02), ([0x14, 0xF3, 0x65, 0x87], .addcMemReg 0x8765 0xF3)] decodesTo = true := by decide

/-- ADDCB to SUBB (40_arithmetic.md R203 to R205). -/
theorem test_decode_arithmetic_2 : List.all
    [([0x11, 0xA3], .addcbRbRb 0xA 3), ([0x19, 0xF8], .addcbRbInd 0xF 0), ([0x19, 0xAE], .addcbRbIndInc 0xA 2),
     ([0x19, 0xF1], .addcbRbData3 0xF 1), ([0x17, 0x88, 0x42, 0x00], .addcbRegData8 0x88 0x42),
     ([0x13, 0xFE, 0xFF, 0x00], .addcbRegMem 0xFE 0xFF), ([0x15, 0x88, 0x21, 0x43], .addcbMemReg 0x4321 0x88),
     ([0x20, 0xF1], .subRwRw 0xF 1), ([0x28, 0xAA], .subRwInd 0xA 2), ([0x28, 0xFC], .subRwIndInc 0xF 0),
     ([0x28, 0xA2], .subRwData3 0xA 2), ([0x26, 0xFE, 0xA7, 0x00], .subRegData16 0xFE 0xA7),
     ([0x22, 0x88, 0x21, 0x43], .subRegMem 0x88 0x4321), ([0x24, 0xFE, 0xFF, 0x00], .subMemReg 0xFF 0xFE),
     ([0x21, 0xA3], .subbRbRb 0xA 3), ([0x29, 0xF8], .subbRbInd 0xF 0), ([0x29, 0xAE], .subbRbIndInc 0xA 2),
     ([0x29, 0xF1], .subbRbData3 0xF 1), ([0x27, 0x88, 0x42, 0x00], .subbRegData8 0x88 0x42),
     ([0x23, 0xFE, 0xFF, 0x00], .subbRegMem 0xFE 0xFF), ([0x25, 0x88, 0x21, 0x43], .subbMemReg 0x4321 0x88)] decodesTo = true := by decide

/-- SUBC to CPL (40_arithmetic.md R206 to R214). -/
theorem test_decode_arithmetic_3 : List.all
    [([0x30, 0x0F], .subcRwRw 0 0xF), ([0x38, 0x59], .subcRwInd 5 1), ([0x38, 0x0F], .subcRwIndInc 0 3),
     ([0x38, 0x55], .subcRwData3 5 5), ([0x36, 0x5A, 0x01, 0x80], .subcRegData16 0x5A 0x8001),
     ([0x32, 0xF3, 0x65, 0x87], .subcRegMem 0xF3 0x8765), ([0x34, 0x5A, 0x02, 0xFC], .subcMemReg 0xFC02 0x5A),
     ([0x31, 0x5C], .subcbRbRb 5 0xC), ([0x39, 0x0B], .subcbRbInd 0 3), ([0x39, 0x5D], .subcbRbIndInc 5 1),
     ([0x39, 0x07], .subcbRbData3 0 7), ([0x37, 0xF3, 0x9D, 0x00], .subcbRegData8 0xF3 0x9D),
     ([0x33, 0x5A, 0x02, 0xFC], .subcbRegMem 0x5A 0xFC02), ([0x35, 0xF3, 0x65, 0x87], .subcbMemReg 0x8765 0xF3),
     ([0x0B, 0x0F], .mul 0 0xF), ([0x1B, 0x5C], .mulu 5 0xC), ([0x4B, 0x00], .div 0), ([0x6B, 0x55], .divl 5),
     ([0x7B, 0x00], .divlu 0), ([0x5B, 0x55], .divu 5), ([0x91, 0x00], .cpl 0)] decodesTo = true := by decide

/-- CPLB to NEGB (40_arithmetic.md R215 to R217). -/
theorem test_decode_arithmetic_4 : List.all
    [([0xB1, 0xF0], .cplb 0xF), ([0x81, 0xA0], .neg 0xA), ([0xA1, 0xF0], .negb 0xF)] decodesTo = true := by decide

/-- XOR to AND (41_logical.md R244 to R240). -/
theorem test_decode_logical_1 : List.all
    [([0x50, 0x0F], .xorRwRw 0 0xF), ([0x58, 0x59], .xorRwInd 5 1), ([0x58, 0x0F], .xorRwIndInc 0 3),
     ([0x58, 0x55], .xorRwData3 5 5), ([0x56, 0x5A, 0x01, 0x80], .xorRegData16 0x5A 0x8001),
     ([0x52, 0xF3, 0x65, 0x87], .xorRegMem 0xF3 0x8765), ([0x54, 0x5A, 0x02, 0xFC], .xorMemReg 0xFC02 0x5A),
     ([0x51, 0x5C], .xorbRbRb 5 0xC), ([0x59, 0x0B], .xorbRbInd 0 3), ([0x59, 0x5D], .xorbRbIndInc 5 1),
     ([0x59, 0x07], .xorbRbData3 0 7), ([0x57, 0xF3, 0x9D, 0x00], .xorbRegData8 0xF3 0x9D),
     ([0x53, 0x5A, 0x02, 0xFC], .xorbRegMem 0x5A 0xFC02), ([0x55, 0xF3, 0x65, 0x87], .xorbMemReg 0x8765 0xF3),
     ([0x60, 0x0F], .andRwRw 0 0xF), ([0x68, 0x59], .andRwInd 5 1), ([0x68, 0x0F], .andRwIndInc 0 3),
     ([0x68, 0x55], .andRwData3 5 5), ([0x66, 0x5A, 0x01, 0x80], .andRegData16 0x5A 0x8001),
     ([0x62, 0xF3, 0x65, 0x87], .andRegMem 0xF3 0x8765), ([0x64, 0x5A, 0x02, 0xFC], .andMemReg 0xFC02 0x5A)] decodesTo = true := by decide

/-- ANDB to ORB (41_logical.md R241 to R243). -/
theorem test_decode_logical_2 : List.all
    [([0x61, 0xF1], .andbRbRb 0xF 1), ([0x69, 0xAA], .andbRbInd 0xA 2), ([0x69, 0xFC], .andbRbIndInc 0xF 0),
     ([0x69, 0xA2], .andbRbData3 0xA 2), ([0x67, 0xFE, 0x07, 0x00], .andbRegData8 0xFE 7),
     ([0x63, 0x88, 0x21, 0x43], .andbRegMem 0x88 0x4321), ([0x65, 0xFE, 0xFF, 0x00], .andbMemReg 0xFF 0xFE),
     ([0x70, 0xA3], .orRwRw 0xA 3), ([0x78, 0xF8], .orRwInd 0xF 0), ([0x78, 0xAE], .orRwIndInc 0xA 2),
     ([0x78, 0xF1], .orRwData3 0xF 1), ([0x76, 0x88, 0xDC, 0xFE], .orRegData16 0x88 0xFEDC),
     ([0x72, 0xFE, 0xFF, 0x00], .orRegMem 0xFE 0xFF), ([0x74, 0x88, 0x21, 0x43], .orMemReg 0x4321 0x88),
     ([0x71, 0xF1], .orbRbRb 0xF 1), ([0x79, 0xAA], .orbRbInd 0xA 2), ([0x79, 0xFC], .orbRbIndInc 0xF 0),
     ([0x79, 0xA2], .orbRbData3 0xA 2), ([0x77, 0xFE, 0x07, 0x00], .orbRegData8 0xFE 7),
     ([0x73, 0x88, 0x21, 0x43], .orbRegMem 0x88 0x4321), ([0x75, 0xFE, 0xFF, 0x00], .orbMemReg 0xFF 0xFE)] decodesTo = true := by decide

/-- CMP to BFLDH (42_bit_and_compare.md R262 to R258). -/
theorem test_decode_bit_and_compare_1 : List.all
    [([0x40, 0x5C], .cmpRwRw 5 0xC), ([0x48, 0x0B], .cmpRwInd 0 3), ([0x48, 0x5D], .cmpRwIndInc 5 1),
     ([0x48, 0x07], .cmpRwData3 0 7), ([0x46, 0xF3, 0x34, 0x12], .cmpRegData16 0xF3 0x1234),
     ([0x42, 0x5A, 0x02, 0xFC], .cmpRegMem 0x5A 0xFC02), ([0x41, 0x5C], .cmpbRbRb 5 0xC), ([0x49, 0x0B], .cmpbRbInd 0 3),
     ([0x49, 0x5D], .cmpbRbIndInc 5 1), ([0x49, 0x07], .cmpbRbData3 0 7),
     ([0x47, 0xF3, 0x9D, 0x00], .cmpbRegData8 0xF3 0x9D), ([0x43, 0x5A, 0x02, 0xFC], .cmpbRegMem 0x5A 0xFC02),
     ([0x3E, 0xF1], .bclr 0xF1 3), ([0x0F, 0x2D], .bset 0x2D 0), ([0x4A, 0xF6, 0xF1, 0x94], .bmov 0xF1 4 0xF6 9),
     ([0x3A, 0x88, 0x1C, 0xDF], .bmovn 0x1C 0xF 0x88 0xD), ([0x6A, 0xF6, 0xF1, 0x94], .band 0xF1 4 0xF6 9),
     ([0x5A, 0x88, 0x1C, 0xDF], .bor 0x1C 0xF 0x88 0xD), ([0x7A, 0xF6, 0xF1, 0x94], .bxor 0xF1 4 0xF6 9),
     ([0x2A, 0x88, 0x1C, 0xDF], .bcmp 0x1C 0xF 0x88 0xD), ([0x1A, 0xF1, 0x9D, 0x6C], .bfldh 0xF1 0x6C 0x9D)] decodesTo = true := by decide

/-- BFLDL (42_bit_and_compare.md R259). -/
theorem test_decode_bit_and_compare_2 : List.all
    [([0x0A, 0x88, 0xF1, 0x42], .bfldl 0x88 0xF1 0x42)] decodesTo = true := by decide

/-- CMPD1 to ROR (43_loop_prior_shift.md R270 to R278). -/
theorem test_decode_loop_prior_shift_1 : List.all
    [([0xA0, 0xB0], .cmpd1RwData4 0 0xB), ([0xA6, 0xF5, 0x34, 0x12], .cmpd1RwData16 5 0x1234),
     ([0xA2, 0xF0, 0x02, 0xFC], .cmpd1RwMem 0 0xFC02), ([0xB0, 0x95], .cmpd2RwData4 5 9),
     ([0xB6, 0xF0, 0x01, 0x80], .cmpd2RwData16 0 0x8001), ([0xB2, 0xF5, 0x65, 0x87], .cmpd2RwMem 5 0x8765),
     ([0x80, 0xB0], .cmpi1RwData4 0 0xB), ([0x86, 0xF5, 0x34, 0x12], .cmpi1RwData16 5 0x1234),
     ([0x82, 0xF0, 0x02, 0xFC], .cmpi1RwMem 0 0xFC02), ([0x90, 0x95], .cmpi2RwData4 5 9),
     ([0x96, 0xF0, 0x01, 0x80], .cmpi2RwData16 0 0x8001), ([0x92, 0xF5, 0x65, 0x87], .cmpi2RwMem 5 0x8765),
     ([0x2B, 0x0F], .prior 0 0xF), ([0x4C, 0x5C], .shlRwRw 5 0xC), ([0x5C, 0xB0], .shlRwData4 0 0xB),
     ([0x6C, 0x5C], .shrRwRw 5 0xC), ([0x7C, 0xB0], .shrRwData4 0 0xB), ([0x0C, 0x5C], .rolRwRw 5 0xC),
     ([0x1C, 0xB0], .rolRwData4 0 0xB), ([0x2C, 0x5C], .rorRwRw 5 0xC), ([0x3C, 0xB0], .rorRwData4 0 0xB)] decodesTo = true := by decide

/-- ASHR (43_loop_prior_shift.md R279). -/
theorem test_decode_loop_prior_shift_2 : List.all
    [([0xAC, 0xF1], .ashrRwRw 0xF 1), ([0xBC, 0x6A], .ashrRwData4 0xA 6)] decodesTo = true := by decide

/-- MOV to MOVB (44_data_movement.md R290 to R314). -/
theorem test_decode_data_movement_1 : List.all
    [([0xF0, 0xA3], .movRwRw 0xA 3), ([0xE0, 0x1F], .movRwData4 0xF 1),
     ([0xE6, 0x88, 0xDC, 0xFE], .movRegData16 0x88 0xFEDC), ([0xA8, 0xF1], .movRwInd 0xF 1),
     ([0x98, 0xA3], .movRwIndInc 0xA 3), ([0xB8, 0xF1], .movIndRw 1 0xF), ([0x88, 0xA3], .movPreDecRw 3 0xA),
     ([0xC8, 0xF1], .movIndInd 0xF 1), ([0xD8, 0xA3], .movIndIncInd 0xA 3), ([0xE8, 0xF1], .movIndIndInc 0xF 1),
     ([0xD4, 0xA3, 0x02, 0x01], .movRwDisp 0xA 3 0x102), ([0xC4, 0xF1, 0x80, 0x7F], .movDispRw 1 0x7F80 0xF),
     ([0x84, 0x0A, 0x21, 0x43], .movIndMem 0xA 0x4321), ([0x94, 0x0F, 0xFF, 0x00], .movMemInd 0xFF 0xF),
     ([0xF2, 0x88, 0x21, 0x43], .movRegMem 0x88 0x4321), ([0xF6, 0xFE, 0xFF, 0x00], .movMemReg 0xFF 0xFE),
     ([0xF1, 0xA3], .movbRbRb 0xA 3), ([0xE1, 0x1F], .movbRbData4 0xF 1),
     ([0xE7, 0x88, 0x42, 0x00], .movbRegData8 0x88 0x42), ([0xA9, 0xF1], .movbRbInd 0xF 1),
     ([0x99, 0xA3], .movbRbIndInc 0xA 3)] decodesTo = true := by decide

/-- MOVB to MOVBZ (44_data_movement.md R315 to R335). -/
theorem test_decode_data_movement_2 : List.all
    [([0xB9, 0x0F], .movbIndRb 0xF 0), ([0x89, 0x5C], .movbPreDecRb 0xC 5), ([0xC9, 0x0F], .movbIndInd 0 0xF),
     ([0xD9, 0x5C], .movbIndIncInd 5 0xC), ([0xE9, 0x0F], .movbIndIndInc 0 0xF),
     ([0xF4, 0x5C, 0xCD, 0xAB], .movbRbDisp 5 0xC 0xABCD), ([0xE4, 0x0F, 0xFE, 0xFF], .movbDispRb 0xF 0xFFFE 0),
     ([0xA4, 0x05, 0x65, 0x87], .movbIndMem 5 0x8765), ([0xB4, 0x00, 0x02, 0xFC], .movbMemInd 0xFC02 0),
     ([0xF3, 0xF3, 0x65, 0x87], .movbRegMem 0xF3 0x8765), ([0xF7, 0x5A, 0x02, 0xFC], .movbMemReg 0xFC02 0x5A),
     ([0xD0, 0xC5], .movbsRwRb 5 0xC), ([0xD2, 0x5A, 0x02, 0xFC], .movbsRegMem 0x5A 0xFC02),
     ([0xD5, 0xF3, 0x65, 0x87], .movbsMemReg 0x8765 0xF3), ([0xC0, 0xF0], .movbzRwRb 0 0xF),
     ([0xC2, 0xF3, 0x65, 0x87], .movbzRegMem 0xF3 0x8765), ([0xC5, 0x5A, 0x02, 0xFC], .movbzMemReg 0xFC02 0x5A)] decodesTo = true := by decide

/-- JMPA to TRAP (45_jump_call.md R343 to R356). -/
theorem test_decode_jump_call : List.all
    [([0xEA, 0x80, 0x10, 0x00], .jmpa 8 0x10), ([0x9C, 0xEA], .jmpi 0xE 0xA), ([0x8D, 0x7F], .jmpr 8 0x7F),
     ([0xFA, 0x83, 0xB9, 0xFD], .jmps 0x83 0xFDB9), ([0x8A, 0x7E, 0x7F, 0x70], .jb 0x7E 7 0x7F),
     ([0xAA, 0x88, 0x02, 0xD0], .jbc 0x88 0xD 2), ([0x9A, 0x7E, 0x7F, 0x70], .jnb 0x7E 7 0x7F),
     ([0xBA, 0x88, 0x02, 0xD0], .jnbs 0x88 0xD 2), ([0xCA, 0x80, 0x10, 0x00], .calla 8 0x10),
     ([0xAB, 0xEA], .calli 0xE 0xA), ([0xBB, 0x7F], .callr 0x7F), ([0xDA, 0x83, 0xB9, 0xFD], .calls 0x83 0xFDB9),
     ([0xE2, 0xFE, 0x10, 0x00], .pcall 0xFE 0x10), ([0x9B, 0x20], .trap 0x10)] decodesTo = true := by decide

/-- POP to RETI (46_stack_return.md R370 to R377). -/
theorem test_decode_stack_return : List.all
    [([0xFC, 0x88], .pop 0x88), ([0xEC, 0xFE], .push 0xFE), ([0xC6, 0x88, 0xDC, 0xFE], .scxtRegData16 0x88 0xFEDC),
     ([0xD6, 0xFE, 0xFF, 0x00], .scxtRegMem 0xFE 0xFF), ([0xCB, 0x00], .ret), ([0xDB, 0x00], .rets),
     ([0xEB, 0x88], .retp 0x88), ([0xFB, 0x88], .reti)] decodesTo = true := by decide

/-- SRST to NOP (47_system_control.md R390 to R410). -/
theorem test_decode_system_control : List.all
    [([0xB7, 0x48, 0xB7, 0xB7], .srst), ([0x87, 0x78, 0x87, 0x87], .idle), ([0x97, 0x68, 0x97, 0x97], .pwrdn),
     ([0xA7, 0x58, 0xA7, 0xA7], .srvwdt), ([0xA5, 0x5A, 0xA5, 0xA5], .diswdt), ([0xB5, 0x4A, 0xB5, 0xB5], .einit),
     ([0xD1, 0x10], .atomic 1), ([0xD1, 0x80], .extr 0), ([0xDC, 0x53], .extpRw 3 1),
     ([0xD7, 0x40, 0x01, 0x00], .extpPag 1 0), ([0xDC, 0xD3], .extprRw 3 1), ([0xD7, 0xC0, 0x01, 0x00], .extprPag 1 0),
     ([0xDC, 0x13], .extsRw 3 1), ([0xD7, 0x00, 0x03, 0x00], .extsSeg 3 0), ([0xDC, 0x93], .extsrRw 3 1),
     ([0xD7, 0x80, 0x03, 0x00], .extsrSeg 3 0), ([0xCC, 0x00], .nop)] decodesTo = true := by decide

/-- A word of the opcode table is read as its bytes, the low one first (30_encoding.md R121). -/
theorem test_decode_table_word : decodeTableWord 32 0x1234F3E6 = some (.movRegData16 0xF3 0x1234) := by decide

/-- The same word, placed where the step fetches, is what the first step after reset runs. -/
theorem test_with_fetch_word :
    leaves (State.reset.withFetchWord 32 0x1234F3E6) (fun t => t.gpr 3 == 0x1234 && t.ip == 4) = true := by decide

/-! ### One step: vectors of 95_test_vectors.md -/

theorem test_T3_add : leaves (start [0x1200] [(0xFC02, 0x8000), (0xFC04, 0x8000)] 0)
    (fun t => t.gpr 1 == 0 && t.psw == 0x1E) = true := by decide

theorem test_T6_add : leaves (start [0x1E08] [(0x4000, 2), (0xFC02, 1), (0xFC04, 0x4000)] 0)
    (fun t => t.gpr 1 == 3 && t.gpr 2 == 0x4002 && t.psw == 0) = true := by decide

theorem test_T13_addb : leaves (start [0xF107, 0x9912] [(0xFC00, 0x7000)] 0)
    (fun t => t.gpr 0 == 0x8200 && t.psw == 5) = true := by decide

theorem test_T14_addb : leaves (start [0x2E09] [(0x4000, 0x8000), (0xFC02, 0x10), (0xFC04, 0x4001)] 0)
    (fun t => t.gpr 1 == 0x90 && t.gpr 2 == 0x4002 && t.psw == 0x11) = true := by decide

theorem test_T16_addc : leaves (start [0x1210] [(0xFC02, 0xFFFF), (0xFC04, 0)] 2)
    (fun t => t.gpr 1 == 0 && t.psw == 2) = true := by decide

theorem test_T18_addcb : leaves (start [0x2311] [(0xFC02, 0xFF)] 0xA)
    (fun t => t.gpr 1 == 0 && t.psw == 0xA) = true := by decide

theorem test_T21_sub : leaves (start [0x1220] [(0xFC02, 5), (0xFC04, 0x8000)] 0)
    (fun t => t.gpr 1 == 0x8005 && t.psw == 0x17) = true := by decide

theorem test_T23_subb : leaves (start [0x2129] [(0xFC02, 0xAA80)] 0)
    (fun t => t.gpr 1 == 0xAA7F && t.psw == 4) = true := by decide

theorem test_T24_subc : leaves (start [0x1230] [(0xFC02, 0), (0xFC04, 0)] 0xA)
    (fun t => t.gpr 1 == 0xFFFF && t.psw == 3) = true := by decide

theorem test_T28_subcb : leaves (start [0x2331] [(0xFC02, 1)] 2)
    (fun t => t.gpr 1 == 0 && t.psw == 8) = true := by decide

theorem test_T31_mul : leaves (start [0x120B] [(0xFC02, 0xFFFE), (0xFC04, 3)] 0)
    (fun t => t.mdh == 0xFFFF && t.mdl == 0xFFFA && t.gpr 1 == 0xFFFE && t.psw == 1) = true := by decide

theorem test_T33_mul : leaves (start [0x120B] [(0xFC02, 0x8000), (0xFC04, 0x8000)] 0)
    (fun t => t.mdh == 0x4000 && t.mdl == 0 && t.psw == 4) = true := by decide

theorem test_T36_mulu : leaves (start [0x121B] [(0xFC02, 0xFFFF), (0xFC04, 0xFFFF)] 0)
    (fun t => t.mdh == 0xFFFE && t.mdl == 1 && t.psw == 5) = true := by decide

theorem test_T37_mulu : leaves (start [0x121B] [(0xFC02, 0xFF), (0xFC04, 0x101)] 0)
    (fun t => t.mdh == 0 && t.mdl == 0xFFFF && t.psw == 0) = true := by decide

theorem test_T38_div : leaves { start [0x114B] [(0xFC02, 3)] 0 with mdl := 0xFFF9 }
    (fun t => t.mdl == 0xFFFE && t.mdh == 0xFFFF && t.psw == 1) = true := by decide

theorem test_T39_div : leaves { start [0x114B] [(0xFC02, 0xFFFD)] 0 with mdl := 7 }
    (fun t => t.mdl == 0xFFFE && t.mdh == 1 && t.psw == 1) = true := by decide

theorem test_T43_divu : leaves { start [0x115B] [(0xFC02, 3)] 0 with mdl := 0xFFF9, mdh := 0x1234 }
    (fun t => t.mdl == 0x5553 && t.mdh == 0 && t.psw == 0) = true := by decide

theorem test_T44_divl : leaves { start [0x116B] [(0xFC02, 0x10)] 0 with mdh := 0xFFFF, mdl := 0xFF01 }
    (fun t => t.mdl == 0xFFF1 && t.mdh == 0xFFF1 && t.psw == 1) = true := by decide

theorem test_T46_divlu : leaves { start [0x117B] [(0xFC02, 2)] 0 with mdh := 1, mdl := 1 }
    (fun t => t.mdl == 0x8000 && t.mdh == 1 && t.psw == 1) = true := by decide

theorem test_T48_cpl : leaves (start [0x1091] [(0xFC02, 0x8000)] 6)
    (fun t => t.gpr 1 == 0x7FFF && t.psw == 0x10) = true := by decide

theorem test_T50_cplb : leaves (start [0x30B1] [(0xFC02, 0x7FAA)] 0)
    (fun t => t.gpr 1 == 0x80AA && t.psw == 1) = true := by decide

theorem test_T51_neg : leaves (start [0x1081] [(0xFC02, 0x8000)] 0)
    (fun t => t.gpr 1 == 0x8000 && t.psw == 0x17) = true := by decide

theorem test_T54_negb : leaves (start [0x20A1] [(0xFC02, 0x1280)] 0)
    (fun t => t.gpr 1 == 0x1280 && t.psw == 0x17) = true := by decide

theorem test_T55_and : leaves (start [0x1260] [(0xFC02, 0xF0F0), (0xFC04, 0x8000)] 6)
    (fun t => t.gpr 1 == 0x8000 && t.psw == 0x11) = true := by decide

theorem test_T57_andb : leaves (start [0xF267, 0x000F] [(0xFC02, 0x12F5)] 0)
    (fun t => t.gpr 1 == 0x1205 && t.psw == 0) = true := by decide

theorem test_T58_or : leaves (start [0x1270] [(0xFC02, 0xF00), (0xFC04, 0xF0)] 0)
    (fun t => t.gpr 1 == 0xFF0 && t.psw == 0) = true := by decide

theorem test_T60_or : leaves (start [0xF174, 0x8000] [(0x8000, 1), (0xFC02, 0x8000)] 0)
    (fun t => t.wordAt 0x8000 == 0x8001 && t.psw == 0x11) = true := by decide

theorem test_T59_orb : leaves (start [0x3271] [(0xFC02, 0x80)] 0)
    (fun t => t.gpr 1 == 0x8080 && t.psw == 0x11) = true := by decide

theorem test_T61_xor : leaves (start [0x1150] [(0xFC02, 0xABCD)] 0)
    (fun t => t.gpr 1 == 0 && t.psw == 8) = true := by decide

theorem test_T62_xorb : leaves (start [0xF257, 0x00FF] [(0xFC02, 0xF)] 0)
    (fun t => t.gpr 1 == 0xF0 && t.psw == 1) = true := by decide

theorem test_T64_orb : leaves (start [0x8877, 0x0002] [] 0x801)
    (fun t => t.psw == 3) = true := by decide

theorem test_T66_cmp : leaves (start [0x1240] [(0xFC02, 0x8000), (0xFC04, 1)] 0)
    (fun t => t.gpr 1 == 0x8000 && t.psw == 4) = true := by decide

theorem test_T70_cmp : leaves (start [0x1E48] [(0x4000, 3), (0xFC02, 3), (0xFC04, 0x4000)] 0)
    (fun t => t.gpr 1 == 3 && t.gpr 2 == 0x4002 && t.psw == 8) = true := by decide

theorem test_T69_cmpb : leaves (start [0xF247, 0x0080] [(0xFC02, 0x7F)] 0)
    (fun t => t.gpr 1 == 0x7F && t.psw == 0x17) = true := by decide

theorem test_T71_bclr : leaves (start [0xF13E] [(0xFC02, 0xF)] 0)
    (fun t => t.gpr 1 == 7 && t.psw == 1) = true := by decide

theorem test_T73_bset : leaves (start [0x00FF] [(0xFD00, 0)] 0)
    (fun t => t.wordAt 0xFD00 == 0x8000 && t.psw == 8) = true := by decide

theorem test_T76_bset : leaves (start [0x881F] [] 8)
    (fun t => t.psw == 0xA) = true := by decide

theorem test_T77_bmov : leaves (start [0xF24A, 0xF0F1] [(0xFC02, 0), (0xFC04, 0x8000)] 0)
    (fun t => t.gpr 1 == 1 && t.psw == 1) = true := by decide

theorem test_T79_bmovn : leaves (start [0xF13A, 0x44F1] [(0xFC02, 0)] 0)
    (fun t => t.gpr 1 == 0x10 && t.psw == 8) = true := by decide

theorem test_T81_band : leaves (start [0xF26A, 0x21F1] [(0xFC02, 2), (0xFC04, 0)] 0)
    (fun t => t.gpr 1 == 0 && t.psw == 5) = true := by decide

theorem test_T83_bor : leaves (start [0xF25A, 0x21F1] [(0xFC02, 0), (0xFC04, 4)] 0)
    (fun t => t.gpr 1 == 2 && t.psw == 5) = true := by decide

theorem test_T84_bxor : leaves (start [0xF27A, 0x21F1] [(0xFC02, 2), (0xFC04, 4)] 0)
    (fun t => t.gpr 1 == 0 && t.psw == 6) = true := by decide

theorem test_T85_bcmp : leaves (start [0xF22A, 0x21F1] [(0xFC02, 2), (0xFC04, 0)] 0)
    (fun t => t.gpr 1 == 2 && t.gpr 2 == 0 && t.psw == 5) = true := by decide

theorem test_T86_band : leaves (start [0x886A, 0x3188] [] 0xB)
    (fun t => t.psw == 0xB) = true := by decide

theorem test_T88_bfldh : leaves (start [0xF21A, 0xF050] [(0xFC04, 0xABCD)] 0)
    (fun t => t.gpr 2 == 0x5BCD && t.psw == 0) = true := by decide

theorem test_T91_bfldl : leaves (start [0xF20A, 0x0100] [(0xFC04, 0x8000)] 0)
    (fun t => t.gpr 2 == 0x8001 && t.psw == 1) = true := by decide

theorem test_T93_cmpd1 : leaves (start [0x01A0] [(0xFC02, 0)] 0)
    (fun t => t.gpr 1 == 0xFFFF && t.psw == 8) = true := by decide

theorem test_T95_cmpd2 : leaves (start [0x43B0] [(0xFC06, 4)] 0)
    (fun t => t.gpr 3 == 2 && t.psw == 8) = true := by decide

theorem test_T97_cmpi1 : leaves (start [0x9180] [(0xFC02, 3)] 0)
    (fun t => t.gpr 1 == 4 && t.psw == 3) = true := by decide

theorem test_T100_cmpi2 : leaves (start [0xF292, 0x8000] [(0x8000, 0x8000), (0xFC04, 0x7FFF)] 0)
    (fun t => t.gpr 2 == 0x8001 && t.psw == 0x17) = true := by decide

theorem test_T101_prior : leaves (start [0x122B] [(0xFC04, 1), (0xFC02, 0xAAAA)] 0)
    (fun t => t.gpr 1 == 0xF && t.gpr 2 == 1 && t.psw == 0) = true := by decide

theorem test_T104_prior : leaves (start [0x122B] [(0xFC04, 0x123), (0xFC02, 0xAAAA)] 0)
    (fun t => t.gpr 1 == 7 && t.psw == 0) = true := by decide

theorem test_T105_shl : leaves (start [0x415C] [(0xFC02, 0x1234)] 0)
    (fun t => t.gpr 1 == 0x2340 && t.psw == 2) = true := by decide

theorem test_T108_shl : leaves (start [0x124C] [(0xFC02, 1), (0xFC04, 0xFFF1)] 0)
    (fun t => t.gpr 1 == 2 && t.psw == 0) = true := by decide

theorem test_T110_shr : leaves (start [0x217C] [(0xFC02, 5)] 0)
    (fun t => t.gpr 1 == 1 && t.psw == 4) = true := by decide

theorem test_T111_shr : leaves (start [0x217C] [(0xFC02, 6)] 0)
    (fun t => t.gpr 1 == 1 && t.psw == 2) = true := by decide

theorem test_T114_rol : leaves (start [0x111C] [(0xFC02, 0x8001)] 0)
    (fun t => t.gpr 1 == 3 && t.psw == 2) = true := by decide

theorem test_T115_rol : leaves (start [0x411C] [(0xFC02, 0x1234)] 0)
    (fun t => t.gpr 1 == 0x2341 && t.psw == 2) = true := by decide

theorem test_T118_ror : leaves (start [0x213C] [(0xFC02, 1)] 0)
    (fun t => t.gpr 1 == 0x4000 && t.psw == 4) = true := by decide

theorem test_T119_ror : leaves (start [0x413C] [(0xFC02, 0x1234)] 0)
    (fun t => t.gpr 1 == 0x4123 && t.psw == 4) = true := by decide

theorem test_T121_ashr : leaves (start [0x11BC] [(0xFC02, 0x8001)] 0)
    (fun t => t.gpr 1 == 0xC000 && t.psw == 3) = true := by decide

theorem test_T124_ashr : leaves (start [0x12AC] [(0xFC02, 0xFFFF), (0xFC04, 3)] 0)
    (fun t => t.gpr 1 == 0xFFFF && t.psw == 7) = true := by decide

theorem test_T131_mov : leaves { start [0x12A8] [(0x14000, 0x77), (0xFC04, 0x4000)] 0 with dpp1 := 5 }
    (fun t => t.gpr 1 == 0x77 && t.psw == 0) = true := by decide

theorem test_T136_mov : leaves { start [0x1288] [(0xFC02, 0xAA), (0xFC04, 0)] 0 with dpp3 := 3 }
    (fun t => t.wordAt 0xFFFE == 0xAA && t.gpr 2 == 0xFFFE && t.psw == 0) = true := by decide

theorem test_T153_movb : leaves { start [0x00E7, 0x0003] [] 0 with dpp0 := 0x155 }
    (fun t => t.dpp0 == 3 && t.psw == 0) = true := by decide

theorem test_T157_movb : leaves (start [0x12D9] [(0x4000, 0x80), (0xFC02, 0x5001), (0xFC04, 0x4000)] 0)
    (fun t => t.byteAt 0x5001 == 0x80 && t.gpr 1 == 0x5002 && t.psw == 0x11) = true := by decide

theorem test_T161_movbs : leaves (start [0x01D0] [(0xFC00, 0x80)] 0x10)
    (fun t => t.gpr 1 == 0xFF80 && t.psw == 1) = true := by decide

theorem test_T164_movbs : leaves (start [0xF2D5, 0x8000] [(0xFC02, 0xFF)] 0)
    (fun t => t.wordAt 0x8000 == 0xFFFF && t.psw == 1) = true := by decide

theorem test_T166_movbz : leaves (start [0x01C0] [(0xFC00, 0x80)] 0x11)
    (fun t => t.gpr 1 == 0x80 && t.psw == 0) = true := by decide

theorem test_T168_movbz : leaves (start [0xF2C5, 0x8000] [(0xFC02, 0xFF)] 0)
    (fun t => t.wordAt 0x8000 == 0xFF && t.psw == 0) = true := by decide

theorem test_T170_jmpa : leaves (start [0x20EA, 0x1000] [] 0)
    (fun t => t.ip == 0x104 && t.psw == 0) = true := by decide

theorem test_T171_jmpa : leaves (start [0x00EA, 0x1001] [] 0)
    (fun t => t.ip == 0x1001 && t.psw == 0) = true := by decide

theorem test_T172_jmpi : leaves (start [0x019C] [(0xFC02, 0x2000)] 0)
    (fun t => t.ip == 0x2000 && t.psw == 0) = true := by decide

theorem test_T173_jmpi : leaves (start [0x119C] [(0xFC02, 0x2000)] 0x10)
    (fun t => t.ip == 0x102 && t.psw == 0x10) = true := by decide

theorem test_T174_jmpr : leaves (start [0x020D] [] 0)
    (fun t => t.ip == 0x106 && t.psw == 0) = true := by decide

theorem test_T178_jmpr : leaves (start [0x800D] [] 0)
    (fun t => t.ip == 2 && t.psw == 0) = true := by decide

theorem test_T185_jmps : leaves (start [0x01FA, 0x2000] [] 0)
    (fun t => t.csp == 1 && t.ip == 0x2000 && t.psw == 0) = true := by decide

theorem test_T186_jmps : leaves { start [0x05FA, 0x2000] [] 0 with cfg := sab.cfg }
    (fun t => t.csp == 1 && t.ip == 0x2000 && t.psw == 0) = true := by decide

theorem test_T187_jb : leaves (start [0xF18A, 0x3002] [(0xFC02, 8)] 0)
    (fun t => t.ip == 0x108 && t.psw == 0) = true := by decide

theorem test_T189_jnb : leaves (start [0xF19A, 0x30FE] [(0xFC02, 0)] 0)
    (fun t => t.ip == 0x100 && t.psw == 0) = true := by decide

theorem test_T190_jbc : leaves (start [0xF1AA, 0x0010] [(0xFC02, 1)] 6)
    (fun t => t.gpr 1 == 0 && t.ip == 0x124 && t.psw == 1) = true := by decide

theorem test_T192_jnbs : leaves (start [0xF1BA, 0x0010] [(0xFC02, 0)] 0)
    (fun t => t.gpr 1 == 1 && t.ip == 0x124 && t.psw == 8) = true := by decide

theorem test_T194_jbc : leaves (start [0x88AA, 0x3010] [] 0xA)
    (fun t => t.psw == 2 && t.ip == 0x124) = true := by decide

theorem test_T195_calla : leaves (start [0x00CA, 0x2000] [] 0)
    (fun t => t.wordAt 0xFBFE == 0x104 && t.sp == 0xFBFE && t.ip == 0x2000 && t.psw == 0) = true := by decide

theorem test_T196_calla : leaves (start [0x80CA, 0x2000] [] 0)
    (fun t => t.sp == 0xFC00 && t.ip == 0x104 && t.psw == 0) = true := by decide

theorem test_T197_calli : leaves (start [0x04AB] [(0xFC08, 0x3000)] 0)
    (fun t => t.wordAt 0xFBFE == 0x102 && t.sp == 0xFBFE && t.ip == 0x3000 && t.psw == 0) = true := by decide

theorem test_T198_callr : leaves (start [0x10BB] [] 0)
    (fun t => t.wordAt 0xFBFE == 0x102 && t.sp == 0xFBFE && t.ip == 0x122 && t.psw == 0) = true := by decide

theorem test_T200_calls : leaves (start [0x02DA, 0x3000] [] 0)
    (fun t => t.wordAt 0xFBFE == 0 && t.wordAt 0xFBFC == 0x104 && t.sp == 0xFBFC && t.psw == 0) = true := by decide

theorem test_T202_pcall : leaves (start [0x09E2, 0x2000] [] 0)
    (fun t => t.wordAt 0xFBFE == 0xFC00 && t.wordAt 0xFBFC == 0x104 && t.sp == 0xFBFC && t.psw == 1) = true := by decide

theorem test_T203_trap : leaves { start [] [(0x10100, 0x209B)] 0x800 with csp := 1 }
    (fun t => t.wordAt 0xFBFE == 0x800 && t.wordAt 0xFBFC == 1 && t.wordAt 0xFBFA == 0x102) = true := by decide

theorem test_T204_trap : leaves { start [] [(0x10100, 0x209B)] 0x800 with csp := 1, syscon := 0x800 }
    (fun t => t.wordAt 0xFBFE == 0x800 && t.wordAt 0xFBFC == 0x102 && t.sp == 0xFBFC) = true := by decide

theorem test_T206_push : leaves (start [0xF1EC] [(0xFC02, 0)] 0)
    (fun t => t.wordAt 0xFBFE == 0 && t.sp == 0xFBFE && t.psw == 8) = true := by decide

theorem test_T208_push : leaves (start [0x88EC] [] 0x8800)
    (fun t => t.wordAt 0xFBFE == 0x8800 && t.sp == 0xFBFE && t.psw == 0x8801) = true := by decide

theorem test_T210_pop : leaves { start [0x09FC] [(0xFBFE, 0xFA00)] 0 with sp := 0xFBFE }
    (fun t => t.sp == 0xFA00 && t.psw == 1) = true := by decide

theorem test_T209_pop : leaves { start [0xF3FC] [(0xFBFE, 0x8000)] 0 with sp := 0xFBFE }
    (fun t => t.gpr 3 == 0x8000 && t.sp == 0xFC00 && t.psw == 0x11) = true := by decide

theorem test_T213_scxt : leaves (start [0xF2C6, 0x1234] [(0xFC04, 0xAA)] 8)
    (fun t => t.wordAt 0xFBFE == 0xAA && t.sp == 0xFBFE && t.gpr 2 == 0x1234 && t.psw == 8) = true := by decide

theorem test_T216_scxt : leaves (start [0x09C6, 0xFB00] [] 0)
    (fun t => t.wordAt 0xFBFE == 0xFC00 && t.sp == 0xFB00 && t.psw == 0) = true := by decide

theorem test_T217_ret : leaves { start [0x00CB] [(0xFBFE, 0x104)] 0 with sp := 0xFBFE }
    (fun t => t.sp == 0xFC00 && t.ip == 0x104 && t.psw == 0) = true := by decide

theorem test_T219_rets : leaves { start [0x00DB] [(0xFBFC, 0x104), (0xFBFE, 0x302)] 0 with sp := 0xFBFC }
    (fun t => t.sp == 0xFC00 && t.csp == 2 && t.ip == 0x104 && t.psw == 0) = true := by decide

theorem test_T220_retp : leaves { start [0xF5EB] [(0xFBFC, 0x104), (0xFBFE, 0x8000)] 0 with sp := 0xFBFC }
    (fun t => t.sp == 0xFC00 && t.gpr 5 == 0x8000 && t.ip == 0x104 && t.psw == 0x11) = true := by decide

theorem test_T221_reti : leaves { start [0x88FB] [(0xFBFA, 0x102), (0xFBFC, 1), (0xFBFE, 0x800)] 0 with sp := 0xFBFA }
    (fun t => t.sp == 0xFC00 && t.csp == 1 && t.psw == 0x800) = true := by decide

theorem test_T222_reti : leaves { start [0x88FB] [(0xFBFC, 0x102), (0xFBFE, 0x581F)] 0 with syscon := 0x800, sp := 0xFBFC }
    (fun t => t.sp == 0xFC00 && t.csp == 0 && t.psw == 0x581F) = true := by decide

theorem test_T223_nop : leaves (start [0x00CC] [] 0x1F)
    (fun t => t.ip == 0x102 && t.psw == 0x1F) = true := by decide

theorem test_T224_diswdt : leaves (start [0x5AA5, 0xA5A5] [] 0)
    (fun t => t.ip == 0x104 && t.wdtEnabled == false && t.wdtLocked == false) = true := by decide

theorem test_T227_idle : leaves (start [0x7887, 0x8787] [] 0)
    (fun t => t.ip == 0x104 && t.runState == .idle) = true := by decide

theorem test_T228_pwrdn : leaves (start [0x6897, 0x9797] [] 0)
    (fun t => t.ip == 0x104 && t.runState == .running) = true := by decide

theorem test_T229_pwrdn : leaves { start [0x6897, 0x9797] [] 0 with nmiLow := true }
    (fun t => t.ip == 0x104 && t.runState == .powerDown) = true := by decide

theorem test_T230_srst : leaves { start [0x48B7, 0xB7B7] [] 0xF81F with sp := 0xFA00, dpp0 := 7 }
    (fun t => t.psw == 0 && t.dpp0 == 0) = true := by decide

theorem test_T233_atomic : leaves (start [0x10D1] [] 0)
    (fun t => t.ip == 0x102 && t.seqCount == 2) = true := by decide

theorem test_T247_extp : leaves (start [0x40D7, 0x0123] [(0xFC02, 0xAB)] 0)
    (fun t => t.seqCount == 1 && t.extData == .page 0x123 && t.psw == 0) = true := by decide

theorem test_T251_extsr : leaves (start [0x90D7, 0x0012] [] 0)
    (fun t => t.ip == 0x104 && t.seqCount == 2 && t.extSfr == .extended) = true := by decide

theorem test_T246_extp : leaves (start [0x50D7, 0x0123] [] 0)
    (fun t => t.ip == 0x104 && t.seqCount == 2 && t.extData == .page 0x123) = true := by decide

theorem test_T225_einit : leaves (start [0x4AB5, 0xB5B5] [] 0)
    (fun t => t.wdtLocked == true && t.rstoutLow == false && t.ip == 0x104) = true := by decide

theorem test_T226_srvwdt : leaves { start [0x58A7, 0xA7A7] [] 0 with wdt := 0x1234 }
    (fun t => t.wdtLocked == true && t.wdt == 0 && t.ip == 0x104) = true := by decide

theorem test_T225_diswdt_locked : leaves { start [0x5AA5, 0xA5A5] [] 0 with wdtLocked := true }
    (fun t => t.wdtEnabled == true && t.ip == 0x104) = true := by decide

theorem test_T239_extr : leaves (start [0x80D1] [] 0)
    (fun t => t.seqCount == 1 && t.extSfr == .extended && t.extData == .none) = true := by decide

theorem test_T248_extpr : leaves (start [0xC0D7, 0x0001] [] 0)
    (fun t => t.seqCount == 1 && t.extSfr == .extended && t.extData == .page 1) = true := by decide

theorem test_T249_exts : leaves (start [0x01DC] [(0xFC02, 1)] 0)
    (fun t => t.seqCount == 1 && t.extSfr == .standard && t.extData == .segment 1) = true := by decide

/-- T240, second step: in the sequence `reg` 00H names the ESFR word at F000H, here a word of the platform. -/
theorem test_T240_extended_reg :
    leaves { start [0x00F6, 0x8000] [(0xF000, 0x00E5)] 0 with
        seqCount := 1, extSfr := .extended, cfg := { Config.default with platformSfrs := [(0xF000, .storage)] } }
      (fun t => t.wordAt 0x8000 == 0x00E5 && t.extSfr == .standard) = true := by decide

/-! ### Traps and refusals -/

/-- T132, T10: a word access at an odd address, by default the end of the run (60_exceptions.md R426, R436). -/
theorem test_T132_odd_word : faults (start [0x12A8] [(0xFC04, 0x4001)] 0)
    (.hardwareTrap (.illegalWordOperandAccess 0x4001)) = true := by decide

/-- The same with HW_TRAP_ENTRY: the routine of trap 0AH, with the next instruction's address on the stack and ILLOPA in
TFR (60_exceptions.md R421, R424, R426). -/
theorem test_odd_word_entry :
    leaves { start [0x12A8] [(0xFC04, 0x4001)] 0 with cfg := { Config.default with hwTrapEntry := true } }
      (fun t => t.ip == 0x28 && t.wordAt 0xFBFA == 0x102 && t.tfr == 4 && t.level == 15) = true := by decide

/-- T231: a protected instruction with a wrong byte. -/
theorem test_T231_protection : faults (start [0x48B7, 0xB6B7] [] 0)
    (.hardwareTrap (.protectionFault 0xB7)) = true := by decide

/-- T232: an undefined first byte. -/
theorem test_T232_undefined : faults (start [0x008B] [] 0)
    (.hardwareTrap (.undefinedOpcode 0x8B)) = true := by decide

/-- T171: the fetch after a jump to an odd address. -/
theorem test_T171_odd_fetch : faults { start [] [] 0 with ip := 0x1001 }
    (.hardwareTrap (.illegalInstructionAccess 0x1001)) = true := by decide

/-- T42, T238, T253: fixed bits violated. -/
theorem test_T42_no_such_encoding : refuses (start [0x124B] [] 0)
    (.noSuchEncoding 0x4B 0x12 0 0) = true := by decide

/-- An interrupt above ILVL with IEN set (60_exceptions.md R421, R430): PSW, CSP and IP pushed, ILVL raised. -/
theorem test_interrupt_entry :
    leaves { start [0x00CC] [] 0x3800 with pending := [.interrupt 0x22 9] }
      (fun t => t.ip == 0x88 && t.psw == 0x9800 && t.wordAt 0xFBFE == 0x3800 && t.wordAt 0xFBFA == 0x100 && t.pending == []) =
      true := by decide

/-- A sequence of one instruction ends after it (47_system_control.md R399). -/
theorem test_sequence_end :
    leaves { start [0x00CC] [] 0 with seqCount := 1, extSfr := .extended }
      (fun t => t.seqCount == 0 && t.extSfr == .standard) = true := by decide

/-- Memory keeps its canonical form under a write of an initial value; where no initial value is named a written 0 stays. -/
theorem test_memory_canonical : ((State.reset.storeWord 0xFC10 0x00FF).storeWord 0xFC10 0).mem = [] ∧
    (State.reset.storeByte 0x4000 0).mem = [(0x4000, 0)] := by decide

/-- SCXT R1, #1234H whose push lands on CP: the new bank's R1 is loaded (46_stack_return.md R372). -/
theorem test_scxt_moves_the_bank : leaves { start [0xF1C6, 0x1234] [(0xFC02, 0xFB00)] 0 with sp := 0xFE12 }
    (fun t => t.cp == 0xFB00 && t.wordAt 0xFB02 == 0x1234 && t.wordAt 0xFC02 == 0xFB00) = true := by decide

/-- Code stored in MDL is not run (20_memory.md R103, 70_reset_and_hazards.md R489). -/
theorem test_stored_register_code : refuses { State.reset.putWord 0xFE0E 0x00CC with ip := 0xFE0E }
    (.storedCode 0xFE0E) = true := by decide

/-- MOV 0200H, R1 where the word's second byte is ROM (20_memory.md R108). -/
theorem test_rom_second_byte :
    refuses { start [0xF1F6, 0x0200] [] 0 with cfg := { Config.default with
        memMap := [⟨0, 0x200, .ram⟩, ⟨0x201, 0x201, .rom⟩, ⟨0x202, 0xFFFF, .ram⟩] } } (.romWrite 0x201) = true := by decide

/-- MOV 4000H, R1 where MEM_MAP puts an SFR region at 4000H and SFR_MAP puts MDL there; F000H is RAM and FE0EH no SFR
(20_memory.md R108, 10_state.md R44). -/
theorem test_sfr_region_elsewhere :
    leaves { start [0xF1F6, 0x4000] [(0xFC02, 0x1234)] 0 with cfg := { Config.default with
        sfrMap := [(0x4000, .mdl)], memMap := [⟨0x4000, 0x4001, .sfr⟩, ⟨0xF000, 0xFFFF, .ram⟩, ⟨0, 0xEFFF, .external⟩] } }
      (fun t => t.mdl == 0x1234 && place t.cfg 0xF000 == .plain && place t.cfg 0xFE0E == .plain) = true := by decide

/-- An undefined opcode with HW_TRAP_ENTRY returns to the instruction itself (60_exceptions.md R425). -/
theorem test_undefined_entry :
    leaves { start [0x008B] [] 0 with cfg := { Config.default with hwTrapEntry := true } }
      (fun t => t.ip == 0x28 && t.wordAt 0xFBFA == 0x100 && t.tfr == 0x80) = true := by decide

/-- The class B trap of the instruction at IP comes before a pending interrupt (60_exceptions.md R433). -/
theorem test_trap_before_interrupt : faults { start [0x008B] [] 0x3800 with pending := [.interrupt 0x22 9] }
    (.hardwareTrap (.undefinedOpcode 0x8B)) = true := by decide

/-- Class B traps outstanding together set both TFR flags and share one entry (60_exceptions.md R433). -/
theorem test_shared_entry :
    leaves { start [0x008B] [] 0 with cfg := { Config.default with hwTrapEntry := true }, tfr := 0x0008
                                      pending := [.classB (.protectionFault 0x87), .interrupt 1 15] }
      (fun t => t.ip == 0x28 && t.tfr == 0x0088 && t.pending == [.interrupt 1 15]) = true := by decide

/-- A class B trap that waits is not locked out by a sequence, and ends it (47_system_control.md R399). -/
theorem test_waiting_trap_in_sequence :
    leaves { start [0x00CC] [] 0xE000 with seqCount := 3, extData := .page 1, pending := [.classB (.undefinedOpcode 0x8B)] }
      (fun t => t.ip == 0x28 && t.seqCount == 0 && t.extData == .none && t.pending == []) = true := by decide

/-- ADDC R1, [R0+] where R0 is PSW and its increment clears Z and C: both are those before (40_arithmetic.md R202). -/
theorem test_addc_pointer_psw :
    leaves { start [0x1C18] [(0x000E, 0xFFFF)] 0x000E with cp := 0xFF10 }
      (fun t => t.syscon == 0 && t.flags == ⟨false, true, false, true, false⟩) = true := by decide

/-- MOV [-R0], R1 where R0 is CP: the word below it is written, which is no pointer's own word (20_memory.md R91). -/
theorem test_predecrement_cp :
    leaves { start [0x1088] [] 0 with cp := 0xFE10 } (fun t => t.cp == 0xFE0E && t.mdl == 0xFC00) = true := by decide

/-- A class B trap that waits is entered when ILVL has left 15, and not before (60_exceptions.md R433). -/
theorem test_waiting_trap :
    leaves { start [0x00CC] [] 0xE000 with pending := [.interrupt 1 15, .classB (.undefinedOpcode 0x8B)] }
      (fun t => t.ip == 0x28 && t.level == 15 && t.pending == [.interrupt 1 15]) = true ∧
    leaves { start [0x00CC] [] 0xF000 with pending := [.classB (.undefinedOpcode 0x8B)] } (fun t => t.ip == 0x102) = true := by
  decide

/-- CMP R1, R1 where the layout puts Z at bit 12 of PSW and E, V, C, N beside it (00_scope.md R7). -/
theorem test_psw_layout :
    leaves { start [0x1140] [] 0 with cfg := { Config.default with pswPlaces := (List.range 16).reverse } }
      (fun t => t.readSfr .psw == 0x1000 && t.wordAt 0xFF10 == 0x1000 && t.flags.z) = true := by decide

/-! ### Witnesses: states and operands that meet the hypotheses of the obligations -/

/-- Everything that the seven word forms of a result `f` ask of a state and operands. -/
def wordFormsMet (f : Flags → Word → Word → Flagged 16) (s : State) (n : Nib) (i : BitVec 2) (reg : Byte) (d mem : Word) :
    Bool :=
  let pa := s.physData (s.gpr (pointerOf i))
  let qa := s.physData mem
  bankReady s && pointerOf i != n && canReadW s pa && !s.ownWord (pointerOf i) pa && regReady s reg &&
    canReadW s (regW s reg) && canReadW s qa && canWriteW s (regW s reg) (f s.flags (s.wordAt (regW s reg)) d).val &&
    canWriteW s (regW s reg) (f s.flags (s.wordAt (regW s reg)) (s.wordAt qa)).val &&
    canWriteW s qa (f s.flags (s.wordAt qa) (s.wordAt (regW s reg))).val

/-- The same for the byte forms. -/
def byteFormsMet (f : Flags → Byte → Byte → Flagged 8) (s : State) (n : Nib) (i : BitVec 2) (reg : Byte) (d : Byte)
    (mem : Word) : Bool :=
  let pa := s.physData (s.gpr (pointerOf i))
  let qa := s.physData mem
  bankReady s && pointerOf i != wordOfByteGpr n && canReadB s pa && !s.ownWord (pointerOf i) pa && regReady s reg &&
    canReadB s (regB s reg) && canReadB s qa && canWriteB s (regB s reg) (f s.flags (s.byteAt (regB s reg)) d).val &&
    canWriteB s (regB s reg) (f s.flags (s.byteAt (regB s reg)) (s.byteAt qa)).val &&
    canWriteB s qa (f s.flags (s.byteAt qa) (s.byteAt (regB s reg))).val

/-- The operands at their bounds: an SFR, the first and the last GPR, the first and the last `mem`. -/
def formsMet (f : Flags → Word → Word → Flagged 16) (g : Flags → Byte → Byte → Flagged 8) : Bool :=
  wordFormsMet f State.reset 15 0 0x00 0xFFFF 0x0000 && wordFormsMet f State.reset 0 3 0xF0 0 0xFFFE &&
    wordFormsMet f State.reset 1 2 0xFF 7 0xFE0E && byteFormsMet g State.reset 15 0 0x00 0xFF 0x0000 &&
    byteFormsMet g State.reset 0 3 0xF0 0 0xFFFF && byteFormsMet g State.reset 6 2 0xFF 7 0xFE0F

theorem test_witness_AdditionForms :
    formsMet (fun f a b => sumResult a b f.c (fun r => decide (r = 0) && f.z))
      (fun f a b => sumResult a b f.c (fun r => decide (r = 0) && f.z)) = true ∧
    formsMet (fun _ a b => sumResult a b false (fun r => decide (r = 0)))
      (fun _ a b => sumResult a b false (fun r => decide (r = 0))) = true := by decide

theorem test_witness_SubtractionForms :
    formsMet (fun f a b => differenceResult a b f.c (fun r => decide (r = 0) && f.z))
      (fun f a b => differenceResult a b f.c (fun r => decide (r = 0) && f.z)) = true ∧
    formsMet (fun _ a b => differenceResult a b false (fun r => decide (r = 0)))
      (fun _ a b => differenceResult a b false (fun r => decide (r = 0))) = true := by decide

theorem test_witness_LogicForms :
    formsMet (fun _ a b => logicResult (a &&& b) b) (fun _ a b => logicResult (a ||| b) b) = true ∧
    formsMet (fun _ a b => logicResult (a ||| b) b) (fun _ a b => logicResult (a ^^^ b) b) = true ∧
    formsMet (fun _ a b => logicResult (a ^^^ b) b) (fun _ a b => logicResult (a &&& b) b) = true := by decide

theorem test_witness_CompareForms :
    formsMet (fun _ a b => differenceResult a b false (fun r => decide (r = 0)))
      (fun _ a b => differenceResult a b false (fun r => decide (r = 0))) = true := by decide

/-- A state with R1 and MD as given. -/
def operands (r1 mdl mdh : Word) : State := { start [] [(0xFC02, r1)] 0 with mdl := mdl, mdh := mdh }

theorem test_witness_MultiplyResults : bankReady (operands 0x8000 0 0) = true ∧ (operands 0x8000 0 0).gpr 1 = 0x8000 := by
  decide

/-- DIV, DIVL, DIVU, DIVLU at the ends of what fits, and a machine with another SDIV. -/
theorem test_witness_DivideResults :
    (let s := operands 0xFFFF 0x8001 0
     bankReady s = true ∧ s.cfg.sdiv = .truncating ∧ (s.gpr 1).toInt ≠ 0 ∧
       ¬(s.mdl.toInt = -32768 ∧ (s.gpr 1).toInt = -1)) ∧
    (let s := operands 1 0x8000 0
     bankReady s = true ∧ (s.gpr 1).toInt ≠ 0 ∧ ¬(s.mdl.toInt = -32768 ∧ (s.gpr 1).toInt = -1)) ∧
    (let s := operands 1 0x8000 0xFFFF
     bankReady s = true ∧ s.cfg.sdiv = .truncating ∧ (s.gpr 1).toInt ≠ 0 ∧
       s.md.toInt.tdiv (s.gpr 1).toInt = -32768) ∧
    (let s := operands 2 0xFFFF 0
     bankReady s = true ∧ (s.gpr 1).toInt ≠ 0 ∧ s.md.toInt.tdiv (s.gpr 1).toInt = 32767) ∧
    (let s := operands 1 0xFFFF 0
     bankReady s = true ∧ (s.gpr 1).toNat ≠ 0) ∧
    (let s := operands 0xFFFF 0xFFFF 0xFFFE
     bankReady s = true ∧ s.mdh.toNat < (s.gpr 1).toNat) ∧
    bankReady (State.powerOn { Config.default with sdiv := .other }) = true := by decide

theorem test_witness_DivideOverflow :
    (let s := operands 0 7 0
     bankReady s = true ∧ (s.gpr 1).toInt = 0 ∧ (s.gpr 1).toNat = 0 ∧ (s.gpr 1).toNat ≤ s.mdh.toNat) ∧
    (let s := operands 0xFFFF 0x8000 0
     bankReady s = true ∧ s.cfg.sdiv = .truncating ∧ s.mdl.toInt = -32768 ∧ (s.gpr 1).toInt = -1) ∧
    (let s := operands 2 0x0000 0x0001
     bankReady s = true ∧ s.cfg.sdiv = .truncating ∧ s.md.toInt.tdiv (s.gpr 1).toInt = 32768) ∧
    (let s := operands 1 0x7FFF 0xFFFF
     bankReady s = true ∧ s.cfg.sdiv = .truncating ∧ s.md.toInt.tdiv (s.gpr 1).toInt = -32769) ∧
    (let s := operands 5 0 5
     bankReady s = true ∧ (s.gpr 1).toNat ≤ s.mdh.toNat) := by decide

theorem test_witness_ComplementAndNegate : bankReady (operands 0x8000 0 0) = true := by decide

theorem test_witness_BitReplacement : 15 < 16 := by decide

/-- A bit operand in a state: readable, and writable with the bit cleared, set. -/
def bitMet (s : State) (b : Byte) (p : Nib) : Bool :=
  let pa := bitoffW s b
  bitoffReady s b && canReadW s pa && canWriteW s pa (withBit (s.wordAt pa) p false) &&
    canWriteW s pa (withBit (s.wordAt pa) p true)

/-- The bounds of the three ranges of `bitoff`: RAM 00H and 7FH, MDC, PSW and TFR, R0 and R15. -/
theorem test_witness_BitClearAndSet :
    [0x00, 0x7F, 0x87, 0x88, 0xD6, 0xF0, 0xFF].all (fun b => bitMet State.reset b 0 && bitMet State.reset b 15) = true := by
  decide

theorem test_witness_BitOperations :
    [0x00, 0x7F, 0x87, 0x88, 0xD6, 0xF0, 0xFF].all (fun b => bitMet State.reset b 15) = true ∧
    canWriteW State.reset (bitoffW State.reset 0xF0) (withBit 0 0 (true && true)) = true := by decide

theorem test_witness_BitFields :
    [0x00, 0x7F, 0x87, 0x88, 0xF0, 0xFF].all (fun b =>
      let pa := bitoffW State.reset b
      bitoffReady State.reset b && canReadW State.reset pa && canWriteW State.reset pa 0xFFFF) = true := by decide

theorem test_witness_CompareAndLoop :
    bankReady State.reset = true ∧ canReadW State.reset (State.reset.physData 0xFFFE) = true := by decide

theorem test_witness_PrioritizeCounts : bankReady (operands 1 0 0) = true ∧ bankReady State.reset = true := by decide

theorem test_witness_ShiftForms : bankReady (operands 0xFFFF 0 0) = true ∧ ((operands 0xFFFF 0 0).gpr 1).toNat % 16 = 15 := by
  decide

/-- What the direct forms of MOV, MOVB, MOVBS, MOVBZ ask, for a word `v` and its low byte. -/
def directMet (s : State) (reg : Byte) (mem v : Word) : Bool :=
  regReady s reg && canReadW s (regW s reg) && canWriteW s (regW s reg) v && canReadW s (s.physData mem) &&
    canWriteW s (regW s reg) (s.wordAt (s.physData mem)) && canWriteW s (s.physData mem) (s.wordAt (regW s reg)) &&
    canReadB s (regB s reg) && canWriteB s (regB s reg) (lowByte v) && canReadB s (s.physData mem) &&
    canWriteB s (regB s reg) (s.byteAt (s.physData mem)) && canWriteB s (s.physData mem) (s.byteAt (regB s reg))

theorem test_witness_MoveWordDirect :
    (directMet State.reset 0x00 0 5 && directMet State.reset 0xF0 0xFFFE 5 && directMet State.reset 0xFF 0xFE0E 0xFFFF) =
      true := by decide

theorem test_witness_MoveByteDirect :
    (directMet State.reset 0x06 0 0xFF && directMet State.reset 0xF0 0xFFFE 5 && directMet State.reset 0xFF 0xFE0E 0x80) =
      true := by decide

theorem test_witness_MoveExtended :
    (directMet State.reset 0x00 0 0xFF80 && directMet State.reset 0xF0 0xFFFE 0xFF80 &&
      directMet State.reset 0xFF 0xFE0E 0x7F) = true := by decide

/-- R1 and R2 point to memory: to the start of a page and to its last word. -/
def pointers : State := start [] [(0xFC02, 0x4000), (0xFC04, 0xBFFE), (0xFC06, 0x1234)] 0

theorem test_witness_MoveWordIndirect :
    bankReady pointers = true ∧ (2 : Nib) ≠ 1 ∧
    (let pa := pointers.physData (pointers.gpr 1)
     canReadW pointers pa = true ∧ canWriteW pointers pa (pointers.gpr 3) = true ∧ pointers.ownWord 1 pa = false) ∧
    (let qa := pointers.physData (pointers.gpr 2)
     canReadW pointers qa = true ∧ canWriteW pointers qa (pointers.wordAt 0x4000) = true ∧ pointers.ownWord 2 qa = false) ∧
    (let ra := pointers.physData (pointers.gpr 1 - 2)
     ra = 0x3FFE ∧ canReadW pointers ra = true ∧ canWriteW pointers ra (pointers.gpr 3) = true ∧
       pointers.ownWord 1 ra = false) ∧
    (let ra := pointers.physData (pointers.gpr 1 + 0xFFFE)
     canReadW pointers ra = true ∧ canWriteW pointers ra (pointers.gpr 3) = true ∧ pointers.ownWord 1 ra = false) ∧
    canReadW pointers (pointers.physData 0xFFFE) = true ∧
      canWriteW pointers (pointers.physData 0xFFFE) (pointers.wordAt 0x4000) = true := by decide

theorem test_witness_MoveByteIndirect :
    bankReady pointers = true ∧ (2 : Nib) ≠ 1 ∧ (1 : Nib) ≠ wordOfByteGpr 0 ∧
    (let pa := pointers.physData (pointers.gpr 1)
     canReadB pointers pa = true ∧ canWriteB pointers pa (pointers.gprByte 6) = true ∧ pointers.ownWord 1 pa = false) ∧
    (let qa := pointers.physData (pointers.gpr 2)
     canReadB pointers qa = true ∧ canWriteB pointers qa (pointers.byteAt 0x4000) = true ∧ pointers.ownWord 2 qa = false) ∧
    (let ra := pointers.physData (pointers.gpr 1 - 1)
     ra = 0x3FFF ∧ canReadB pointers ra = true ∧ canWriteB pointers ra (pointers.gprByte 6) = true ∧
       pointers.ownWord 1 ra = false) ∧
    (let ra := pointers.physData (pointers.gpr 2 + 1)
     ra = 0xBFFF ∧ canReadB pointers ra = true ∧ canWriteB pointers ra (pointers.gprByte 6) = true ∧
       pointers.ownWord 2 ra = false) ∧
    canReadB pointers (pointers.physData 0xFFFF) = true ∧
      canWriteB pointers (pointers.physData 0xFFFF) (pointers.byteAt 0x4000) = true := by decide

/-- R1 points to its own word, R2 just above its own; MOV R1, [R1] and the rest complete there. -/
def aliased : State := start [] [(0xFC02, 0xFC02), (0xFC04, 0xFC06)] 0

theorem test_witness_AliasedPointersRunOnFreeValues :
    bankReady aliased = true ∧ aliased.physData (aliased.gpr 1) = aliased.gprAddress 1 ∧
    aliased.ownWord 1 (aliased.physData (aliased.gpr 1)) = true ∧ aliased.physData (aliased.gpr 2 - 2) = aliased.gprAddress 2 ∧
    canReadW aliased (aliased.physData (aliased.gpr 1)) = true ∧
    (isPlainWord aliased (aliased.physData (aliased.gpr 1)) && isPlainWord aliased (aliased.physData (aliased.gpr 1 + 2)) &&
      isPlainWord aliased (aliased.physData (aliased.gpr 2 - 2)) && isPlain aliased (aliased.physData (aliased.gpr 2 - 1)) &&
      isPlain aliased (aliased.physData (aliased.gpr 1 + 1)) && canReadW aliased (aliased.physData (aliased.gpr 2 + 0xFFFE)) &&
      canReadW aliased (aliased.physData 0xFC02)) = true := by decide

theorem test_witness_AbsoluteAndRelativeJumps :
    condition 2 (start [] [] 8).flags = true ∧ bankReady (start [] [] 8) = true ∧ condition 2 State.reset.flags = false := by
  decide

theorem test_witness_BitJumps :
    bitMet State.reset 0xF1 15 = true ∧ bitMet State.reset 0x88 0 = true ∧ bitMet State.reset 0x00 0 = true ∧
    (State.reset.wordAt (bitoffW State.reset 0xF1)).getLsbD 15 = false ∧
    ((operands 0x8000 0 0).wordAt (bitoffW (operands 0x8000 0 0) 0xF1)).getLsbD 15 = true := by decide

theorem test_witness_BitJumpsThatChangeTheBit :
    bitMet State.reset 0xF1 15 = true ∧ bitMet (operands 0x8000 0 0) 0xF1 15 = true ∧
    (State.reset.wordAt (bitoffW State.reset 0xF1)).getLsbD 15 = false ∧
    ((operands 0x8000 0 0).wordAt (bitoffW (operands 0x8000 0 0) 0xF1)).getLsbD 15 = true ∧
    bitMet (start [] [] 8) 0x88 3 = true := by decide

/-- SP at the first word above address 0, where the last word that fits is pushed. -/
theorem test_witness_CallsWithinSegment :
    condition 0 State.reset.flags = true ∧ roomBelow State.reset 1 = true ∧ bankReady State.reset = true ∧
    condition 2 State.reset.flags = false ∧ roomBelow { State.reset with sp := 2 } 1 = true := by decide

theorem test_witness_CallsThatPushTwoWords :
    roomBelow State.reset 2 = true ∧ roomBelow { State.reset with sp := 4 } 2 = true ∧
    [0x00, 0x09, 0xF0, 0xFF].all (fun r => regReady State.reset r && canReadW State.reset (regW State.reset r)) = true := by
  decide

/-- The same machine with SGTDIS set. -/
def unsegmented : State := { State.reset with syscon := 0x0800 }

theorem test_witness_SoftwareTrapEntry :
    State.reset.segmentationDisabled = false ∧ roomBelow State.reset 3 = true ∧
    unsegmented.segmentationDisabled = true ∧ roomBelow unsegmented 2 = true ∧
    roomBelow { State.reset with sp := 6 } 3 = true ∧ roomBelow { unsegmented with sp := 4 } 2 = true := by decide

theorem test_witness_PushAndPop :
    roomBelow State.reset 1 = true ∧ wordsAbove State.reset 1 = true ∧
    [0x00, 0x09, 0x88, 0xF0, 0xFF].all (fun r => regReady State.reset r && canReadW State.reset (regW State.reset r) &&
      canWriteW State.reset (regW State.reset r) (State.reset.wordAt (stackAbove State.reset 0))) = true := by decide

/-- SP just above CP's address, R1 another legal CP. -/
def pushesToCp : State := { start [] [(0xFC02, 0xFB00), (0xFFFE, 4)] 0 with sp := 0xFE12 }

theorem test_witness_ContextSwitch :
    roomBelow State.reset 1 = true ∧ canReadW State.reset (State.reset.physData 0xFFFE) = true ∧
    [0x00, 0x08, 0x09, 0x88, 0xF0, 0xFF].all (fun r => regReady State.reset r && canReadW State.reset (regW State.reset r) &&
      canWriteW State.reset (regW State.reset r) 0xFB00 &&
      canWriteW State.reset (regW State.reset r) (pushesToCp.wordAt (pushesToCp.physData 0xFFFE))) = true ∧
    (let s := pushesToCp
     let u := { s with sp := s.sp - 2, cp := s.gpr 1 }.markWord (stackBelow s 1)
     bankReady s = true ∧ canWriteW s (stackBelow s 1) (s.gpr 1) = true ∧ place s.cfg (stackBelow s 1) = .sfr .cp ∧
       bankReady u = true ∧ u.cp = 0xFB00 ∧ canReadW s (s.physData 0xFFFE) = true) := by decide

theorem test_witness_Returns :
    wordsAbove State.reset 1 = true ∧ wordsAbove State.reset 2 = true ∧ wordsAbove { State.reset with sp := 0xFFFC } 2 = true ∧
    [0x00, 0x09, 0x88, 0xF0, 0xFF].all (fun r => regReady State.reset r &&
      canWriteW State.reset (regW State.reset r) (State.reset.wordAt (stackAbove State.reset 1))) = true := by decide

theorem test_witness_ReturnFromInterrupt :
    State.reset.segmentationDisabled = false ∧ wordsAbove State.reset 3 = true ∧
    unsegmented.segmentationDisabled = true ∧ wordsAbove unsegmented 2 = true ∧
    wordsAbove { State.reset with sp := 0xFFFA } 3 = true := by decide

/-- A state that is not the one after reset and has the invariant. -/
theorem test_busy_invariant : StateInv { start [0x00CC] [] 0xF81F with seqCount := 4, extSfr := .extended, csp := 0x12 } :=
  ⟨by decide, by decide, by decide, by decide, by decide, by decide, by decide, by decide⟩

/-- A machine whose PSW is laid out from the high end down and whose SGTDIS is bit 0. -/
def relaid : State :=
  { State.powerOn { Config.default with pswPlaces := (List.range 16).reverse, sgtdisPlace := 0 } with
    psw := 0xF800, syscon := 1 }

/-- With SGTDIS clear and set, and under another bit layout of PSW and SYSCON. -/
theorem test_witness_TrapThenReturnRestores :
    (StateInv (start [] [] 0xF81F) ∧ roomBelow (start [] [] 0xF81F) 3 = true) ∧
    (StateInv unsegmented ∧ unsegmented.segmentationDisabled = true ∧ roomBelow unsegmented 3 = true) ∧
    (StateInv relaid ∧ relaid.segmentationDisabled = true ∧ roomBelow relaid 3 = true ∧ relaid.readSfr .psw = 0x001F) :=
  ⟨⟨⟨by decide, by decide, by decide, by decide, by decide, by decide, by decide, by decide⟩, by decide⟩,
    ⟨⟨by decide, by decide, by decide, by decide, by decide, by decide, by decide, by decide⟩, by decide, by decide⟩,
    ⟨by decide, by decide, by decide, by decide, by decide, by decide, by decide, by decide⟩, by decide, by decide, by decide⟩

theorem test_witness_IdleAndPowerDown :
    (let s := { State.reset with runState := .idle }
     s.runState = .idle ∧ s.pending = [] ∧ resetRequested s = false) ∧
    (let s := { State.reset with runState := .idle, wdtOverflow := true, wdtEnabled := false }
     s.runState = .idle ∧ s.pending = [] ∧ resetRequested s = false) ∧
    (let s := { State.reset with runState := .idle, pending := [.nmi] }
     s.runState = .idle ∧ .nmi ∈ s.pending ∧ resetRequested s = false) ∧
    (let s := { State.reset with runState := .idle, pending := [.classB (.undefinedOpcode 0x8B)] }
     s.runState = .idle ∧ (∀ r ∈ s.pending, r.isClassB = true) ∧ resetRequested s = false ∧
       faults s .idleWithoutRequest = true) ∧
    (let s := { State.reset with runState := .powerDown, wdtOverflow := true }
     s.runState = .powerDown ∧ s.extReset = false) := by decide

theorem test_witness_WatchdogAndInitialisation :
    State.reset.wdtLocked = false ∧ { State.reset with wdtLocked := true }.wdtLocked = true := by decide

theorem test_witness_SequenceStarters : bankReady State.reset = true := by decide

/-- NOP as the last of a sequence and in its middle, and a starter. -/
theorem test_witness_SequenceCountsInstructions :
    (let s := { start [0x00CC] [] 0 with seqCount := 1, extData := .page 1 }
     resetRequested s = false ∧ s.runState = .running ∧ nextRequest s = none ∧ fetch s = .ok .nop ∧
       leaves s (fun t => t.ip == 0x102) = true) ∧
    (let s := { start [0x00CC] [] 0 with seqCount := 4 }
     nextRequest s = none ∧ fetch s = .ok .nop ∧ leaves s (fun t => t.seqCount == 3) = true) ∧
    (let s := start [0x30D1] [] 0
     nextRequest s = none ∧ fetch s = .ok (.atomic 3) ∧ leaves s (fun t => t.seqCount == 4) = true) := by decide

theorem test_witness_SequenceLocksRequests :
    (let s := { start [0x00CC] [] 0x0800 with seqCount := 1, pending := [.nmi, .interrupt 1 15] }
     s.seqCount ≠ 0 ∧ resetRequested s = false ∧ s.runState = .running ∧ (s.pending.all (fun r => !r.isClassB)) = true ∧
       fetch s ≠ .ok .srst ∧
       leaves s (fun t => t.pending == [.nmi, .interrupt 1 15]) = true) ∧
    (let s := { start [0x008B] [] 0 with cfg := { Config.default with hwTrapEntry := true }, seqCount := 1, pending := [.nmi] }
     leaves s (fun t => t.pending == [.classB (.undefinedOpcode 0x8B)] && t.tfr == 0x8080 && t.ip == 8) = true) ∧
    (let s := { start [0x008B] [] 0 with cfg := { Config.default with hwTrapEntry := true }, seqCount := 1
                                         pending := [.classB (.protectionFault 0x87), .interrupt 1 15] }
     leaves s (fun t => t.pending == [.interrupt 1 15]) = true) ∧
    (let s := { start [0x48B7, 0xB7B7] [] 0 with pending := [.interrupt 1 15] }
     fetch s = .ok .srst ∧ leaves s (fun t => t.pending == []) = true) := by decide

theorem test_witness_PswAsDestination : isPsw Config.default 0xFF10 = true ∧ isPsw Config.default 0xFF11 = true ∧
    canWriteW State.reset 0xFF10 0xFFFF = true := by decide

/-- A machine with a platform word of each kind. -/
def withDevices : State := State.powerOn { Config.default with platformSfrs := [(0xFF00, .storage), (0xF010, .functions)] }

theorem test_witness_SfrByteWriteClearsOtherByte :
    place Config.default 0xFE0E = .sfr .mdl ∧ canWriteB State.reset 0xFE0E 0xFF = true ∧
    place Config.default 0xFE11 = .sfr .cp ∧ canWriteB State.reset 0xFE11 0xFC = true ∧
    place Config.default 0xFE08 = .sfr .csp ∧ place Config.default 0xFE09 = .sfr .csp ∧
    place withDevices.cfg 0xFF01 = .device ∧ place withDevices.cfg 0xF010 = .peripheral ∧
    isPlain State.reset 0 = true ∧ isPlain State.reset 0xFFFFFF = true ∧
    [(0xFE00, .dpp0), (0xFE02, .dpp1), (0xFE04, .dpp2), (0xFE06, .dpp3), (0xFE12, .sp), (0xFE0E, .mdl), (0xFE0C, .mdh),
      (0xFF0E, .mdc), (0xFF12, .syscon), (0xFE14, .stkov), (0xFE16, .stkun), (0xFFAC, .tfr)].all
        (fun p => place Config.default p.1 == .sfr p.2 && canWriteW State.reset p.1 0xFFFF) = true := by decide

theorem test_witness_LittleEndianWords :
    isPlainWord State.reset 0 = true ∧ isPlainWord State.reset 0xFDFE = true ∧ isPlainWord State.reset 0xFFFFFE = true := by
  decide

theorem test_witness_DataAddressTranslation :
    State.reset.cfg.variant = .c167 ∧ State.reset.extData = .none ∧
    { State.reset with extData := .page 0x3FF }.extData = .page 0x3FF ∧
    { State.reset with extData := .segment 0xFF }.extData = .segment 0xFF ∧
    sab.cfg.variant = .sab8xc166 ∧ sab.extData = .none := by decide

theorem test_witness_ShortAddressRanges :
    (0xEF#8).toNat < 0xF0 ∧ 0xF0 ≤ (0xF0#8).toNat ∧ 0xF0 ≤ (0xFF#8).toNat ∧ cpLegal State.reset.cp = true ∧
    cpLegal 0xFFE0 = true ∧ (0x7F#8).toNat ≤ 0x7F ∧ 0x80 ≤ (0x80#8).toNat ∧ { State.reset with extSfr := .extended }.extSfr ≠ .standard := by
  decide

/-- Without and with HW_TRAP_ENTRY: through a pointer, as `mem`, at SP and below SP. -/
theorem test_witness_OddWordAccessTraps :
    [false, true].all (fun entry =>
      let s := { operands 0x4001 0 0 with cfg := { Config.default with hwTrapEntry := entry }, sp := 0xFBFD }
      bankReady s && s.physData (s.gpr 1) == 0x4001 && !s.ownWord 1 0x4001 && s.physData 0xFFFF % 2 == 1 &&
        s.sp.toNat % 2 == 1 && (s.sp - 2).toNat % 2 == 1 &&
        [0x00, 0x09, 0xF0, 0xFF].all (fun r => regReady s r && canReadW s (regW s r))) = true ∧
    1 % 2 = 1 := by decide

/-- The machine with HW_TRAP_ENTRY. -/
def entering : State := State.powerOn { Config.default with hwTrapEntry := true }

theorem test_witness_HardwareTrapEntry :
    State.reset.cfg.hwTrapEntry = false ∧ entering.cfg.hwTrapEntry = true ∧ .nmi ∉ entering.pending ∧
    .nmi ∈ { entering with pending := [.interrupt 1 1, .nmi] }.pending ∧ entering.segmentationDisabled = false ∧
    roomBelow entering 3 = true ∧ roomBelow { entering with sp := 6 } 3 = true ∧
    { entering with syscon := 0x0800 }.segmentationDisabled = true ∧ roomBelow { entering with syscon := 0x0800 } 2 = true ∧
    (let s := { start [0x00CC] [] 0xE000 with pending := [.interrupt 1 15, .classB (.undefinedOpcode 0x8B)] }
     s.runState = .running ∧ resetRequested s = false ∧ nextRequest s = some (.classB (.undefinedOpcode 0x8B)) ∧
       trapAhead s = none ∧ s.segmentationDisabled = false ∧ roomBelow s 3 = true) ∧
    (let s := { start [0x00CC] [] 0 with seqCount := 2, pending := [.classB (.undefinedOpcode 0x8B), .nmi] }
     nextRequest s = some (.classB (.undefinedOpcode 0x8B)) ∧ trapAhead s = none ∧ .nmi ∈ s.pending ∧
       roomBelow s 3 = true ∧ leaves s (fun t => t.ip == 8 && t.pending == [.classB (.undefinedOpcode 0x8B)]) = true) ∧
    (let s := { start [0x00CC] [] 0 with syscon := 0x0800, pending := [.classB (.undefinedOpcode 0x8B)] }
     nextRequest s = some (.classB (.undefinedOpcode 0x8B)) ∧ trapAhead s = none ∧ s.segmentationDisabled = true ∧
       roomBelow s 2 = true) ∧
    (let s := { start [0x008B] [] 0 with pending := [.classB (.undefinedOpcode 0x8B)] }
     nextRequest s = some (.classB (.undefinedOpcode 0x8B)) ∧ trapAhead s = some (.undefinedOpcode 0x8B)) := by
  decide

/-- An interrupt just above ILVL is pending, with IEN set. -/
def interrupted : State := { start [0x00CC] [] 0x3800 with pending := [.interrupt 0x7F 4] }

theorem test_witness_InterruptEntry :
    acceptable interrupted (.interrupt 0x7F 4) = true ∧ acceptable interrupted (.interrupt 0x7F 3) = false ∧
    interrupted.runState = .running ∧ resetRequested interrupted = false ∧
    nextRequest interrupted = some (.interrupt 0x7F 4) ∧ interrupted.segmentationDisabled = false ∧
    roomBelow interrupted 3 = true ∧ { interrupted with syscon := 0x0800 }.segmentationDisabled = true ∧
    nextRequest { interrupted with syscon := 0x0800 } = some (.interrupt 0x7F 4) ∧
    roomBelow { interrupted with syscon := 0x0800 } 2 = true ∧
    trapAhead interrupted = none ∧ trapAhead { interrupted with syscon := 0x0800 } = none ∧
    (let s := { start [0x008B] [] 0x3800 with pending := [.interrupt 0x7F 4] }
     nextRequest s = some (.interrupt 0x7F 4) ∧ trapAhead s = some (.undefinedOpcode 0x8B)) ∧
    (let s := { interrupted with pending := [.interrupt 1 3] ++ .interrupt 0x7F 4 :: [.interrupt 2 15] }
     acceptable s (.interrupt 1 3) = false ∧ acceptable s (.interrupt 0x7F 4) = true ∧
       .nmi ∉ s.pending ∧ s.pending.all (fun r => !r.isClassB) = true) := by decide

theorem test_witness_NmiAndPecService :
    (let s := { start [0x00CC] [] 0xF000 with pending := [.pecByte 0 1, .nmi] }
     s.runState = .running ∧ resetRequested s = false ∧ s.seqCount = 0 ∧ .nmi ∈ s.pending ∧ trapAhead s = none ∧
       s.segmentationDisabled = false ∧ roomBelow s 3 = true) ∧
    (let s := { start [0x008B] [] 0 with cfg := { Config.default with hwTrapEntry := true }, syscon := 0x0800, pending := [.nmi] }
     s.seqCount = 0 ∧ .nmi ∈ s.pending ∧ s.cfg.hwTrapEntry = true ∧ trapAhead s = some (.undefinedOpcode 0x8B) ∧
       s.segmentationDisabled = true ∧ roomBelow s 2 = true ∧ leaves s (fun t => t.tfr == 0x8080 && t.ip == 8) = true) ∧
    (let s := { start [0x00CC] [] 0 with pending := [.pecWord 0xFFFFFE 0xFDFE] }
     nextRequest s = some (.pecWord 0xFFFFFE 0xFDFE) ∧ trapAhead s = none ∧ s.cfg.variant = .c167 ∧
       canReadW s 0xFFFFFE = true ∧ isPlainWord s 0xFDFE = true) ∧
    (let s := { start [0x00CC] [] 0 with pending := [.pecByte 0xFFFFFF 1] }
     nextRequest s = some (.pecByte 0xFFFFFF 1) ∧ trapAhead s = none ∧ canReadB s 0xFFFFFF = true ∧ isPlain s 1 = true) ∧
    (let s := { start [0x00CC] [] 0xF000 with pending := [.interrupt 1 15, .classB (.undefinedOpcode 0x8B)] ++ [.pecByte 0 1] }
     acceptable s (.interrupt 1 15) = false ∧ acceptable s (.classB (.undefinedOpcode 0x8B)) = false ∧ s.seqCount = 0 ∧
       .nmi ∉ s.pending ∧ s.level = 15) ∧
    (let s := { sab with pending := [.pecWord 0xFFFFFE 0x04FDFE] }.storeWord 0 0x00CC
     nextRequest s = some (.pecWord 0xFFFFFE 0x04FDFE) ∧ trapAhead s = none ∧ s.cfg.variant ≠ .c167 ∧
       (0xFFFFFE#24).toNat % 2 ^ 18 = 0x3FFFE ∧ canReadW s 0x3FFFE = true ∧ (0x04FDFE#24).toNat % 2 ^ 18 = 0xFDFE ∧
       isPlainWord s 0xFDFE = true) := by decide

theorem test_witness_ResetRequests :
    { State.reset with extReset := true }.extReset = true ∧
    (let s := { State.reset with wdtOverflow := true, runState := .idle }
     s.wdtOverflow = true ∧ s.wdtEnabled = true ∧ s.runState ≠ .powerDown) ∧
    (let s := { State.reset with wdtOverflow := true, wdtEnabled := false }
     s.extReset = false ∧ s.wdtEnabled = false ∧ s.runState = .running) := by decide

/-- A machine with ROM below 8000H and nothing from 10'0000H on but single bytes from 20'0000H on. -/
def romMachine : State :=
  State.powerOn { Config.default with memMap := [⟨0, 0x7FFF, .rom⟩, ⟨0x8000, 0x0FFFFF, .external⟩, ⟨0x100000, 0x10FFFF, .unmapped⟩,
    ⟨0x200000, 0x200000, .ram⟩, ⟨0x200002, 0x200002, .ram⟩, ⟨0x200003, 0x200003, .rom⟩] }

theorem test_witness_RefusedAccesses :
    place Config.default 0xFF00 = .absent (.undefinedSfr 0xFF00) ∧ place Config.default 0xF1DF = .absent (.undefinedSfr 0xF1DF) ∧
    place romMachine.cfg 0x100000 = .absent (.unmapped 0x100000) ∧ place romMachine.cfg 0x110000 = .absent (.unmapped 0x110000) ∧
    place romMachine.cfg 0 = .rom ∧ place romMachine.cfg 0x7FFE = .rom ∧ place Config.default 0xFE10 = .sfr .cp ∧
    takesWrite Config.default 0xFE11 0xFFE0 = true ∧ (0xFFE2#16).toNat % 2 = 0 ∧ 0xFFE0 < (0xFFE2#16).toNat ∧ (0xFFE0#16).toNat ≤ 0xFFE0 ∧ (0xFC01#16).toNat % 2 = 1 ∧
    accessible romMachine.cfg 1 = true ∧ accessible romMachine.cfg 0x200000 = true ∧ takesWrite romMachine.cfg 0x200000 5 = true ∧
    place romMachine.cfg 0x200001 = .absent (.unmapped 0x200001) ∧ takesWrite romMachine.cfg 0x200002 5 = true ∧
    place romMachine.cfg 0x200003 = .rom ∧ bankReady State.reset = true ∧
    (let s := { State.reset with ip := 0xFE0E }.markWord 0xFE0E
     s.fetchAddress s.ip = 0xFE0E ∧ 0xFE0E ∈ s.stored ∧ (memWriteW State.reset 0xFE0E 5).isOk = true ∧
       (memWriteB State.reset 0xFDFF 5).isOk = true) := by decide

/-- Without and with HW_TRAP_ENTRY. -/
theorem test_witness_FetchTraps :
    [false, true].all (fun entry =>
      let ready := fun (s : State) => !resetRequested s && s.runState == .running && nextRequest s == none
      let odd := { State.reset with ip := 0xFFFF, cfg := { Config.default with hwTrapEntry := entry } }
      let undefined := { start [0x008B] [] 0 with cfg := { Config.default with hwTrapEntry := entry } }
      let wrong := { start [0x48B7, 0xB6B7] [] 0 with cfg := { Config.default with hwTrapEntry := entry } }
      ready odd && odd.ip.toNat % 2 == 1 && ready undefined && undefined.ip.toNat % 2 == 0 &&
        (fetchWord undefined undefined.ip).toOption == some (0x8B, 0) && undefinedFirst undefined.cfg.variant 0x8B &&
        ready wrong && wrong.ip.toNat % 2 == 0 && (fetchBytes wrong).toOption == some [0xB7, 0x48, 0xB7, 0xB6]) = true ∧
    0xB7 ∈ protectedOpcodes ∧ ¬((0x48#8 : Byte) = ~~~0xB7 ∧ (0xB7 : Byte) = 0xB7 ∧ (0xB6 : Byte) = 0xB7) := by decide

theorem test_witness_UndefinedOpcodesAreExactlyThese :
    undefinedFirst .c167 0xD1 = false ∧ undefinedFirst .sab8xc166 0x00 = false ∧ undefinedFirst .sab8xc166 0xFF = false ∧
    decode .c167 [0x3B, 0] = .error .undefinedOpcode ∧ decode .c167 [0xF9, 0] = .error .undefinedOpcode ∧
    decode .sab8xc166 [0x07, 0xF1, 0x42, 0x99, 0x55] = .ok (.addbRegData8 0xF1 0x42, [0x55]) := by decide

theorem test_witness_StepRunsTheDecodedInstruction :
    (let s := start [0xF3E6, 0x1234] [] 0
     resetRequested s = false ∧ s.runState = .running ∧ nextRequest s = none ∧ s.ip.toNat % 2 = 0 ∧
       fetchBytes s = .ok [0xE6, 0xF3, 0x34, 0x12] ∧
       decode s.cfg.variant [0xE6, 0xF3, 0x34, 0x12] = .ok (.movRegData16 0xF3 0x1234, []) ∧
       WellFormed s.cfg.variant (.movRegData16 0xF3 0x1234)) := by decide

theorem test_witness_DecodeEncodeAgree :
    WellFormed .c167 (.extpPag 0x3FF 3) ∧ WellFormed .sab8xc166 (.jbc 0xFF 15 0x80) := by decide

theorem test_witness_StepKeepsInvariant :
    StateInv (start [0x00CC] [] 0xF81F) ∧ leaves (start [0x00CC] [] 0xF81F) (fun t => t.ip == 0x102) = true :=
  ⟨⟨by decide, by decide, by decide, by decide, by decide, by decide, by decide, by decide⟩, by decide⟩

end Sys2Proof.Tests
end

section
/-! PROOFS of the statements about 10_state.md: the condition codes (R36). -/

namespace Sys2Proof.Machine

/-! ### cond(c), one equation per code, named by the code's mnemonic -/

@[simp] theorem condition_uc (f : Flags) : condition 0x0#4 f = true := rfl
@[simp] theorem condition_net (f : Flags) : condition 0x1#4 f = !(f.z || f.e) := rfl
@[simp] theorem condition_z (f : Flags) : condition 0x2#4 f = f.z := rfl
@[simp] theorem condition_nz (f : Flags) : condition 0x3#4 f = !f.z := rfl
@[simp] theorem condition_v (f : Flags) : condition 0x4#4 f = f.v := rfl
@[simp] theorem condition_nv (f : Flags) : condition 0x5#4 f = !f.v := rfl
@[simp] theorem condition_n (f : Flags) : condition 0x6#4 f = f.n := rfl
@[simp] theorem condition_nn (f : Flags) : condition 0x7#4 f = !f.n := rfl
@[simp] theorem condition_c (f : Flags) : condition 0x8#4 f = f.c := rfl
@[simp] theorem condition_nc (f : Flags) : condition 0x9#4 f = !f.c := rfl
@[simp] theorem condition_sgt (f : Flags) : condition 0xA#4 f = !(f.z || xor f.n f.v) := rfl
@[simp] theorem condition_sle (f : Flags) : condition 0xB#4 f = (f.z || xor f.n f.v) := rfl
@[simp] theorem condition_slt (f : Flags) : condition 0xC#4 f = xor f.n f.v := rfl
@[simp] theorem condition_sge (f : Flags) : condition 0xD#4 f = !xor f.n f.v := rfl
@[simp] theorem condition_ugt (f : Flags) : condition 0xE#4 f = !(f.z || f.c) := rfl
@[simp] theorem condition_ule (f : Flags) : condition 0xF#4 f = (f.z || f.c) := rfl

end Sys2Proof.Machine

namespace Sys2Proof.Proofs

open Sys2Proof.Machine

/-- The sixteen codes in the order of the table's rows (10_state.md R36). -/
theorem range_sixteen :
    List.range 16 = [0x0, 0x1, 0x2, 0x3, 0x4, 0x5, 0x6, 0x7, 0x8, 0x9, 0xA, 0xB, 0xC, 0xD, 0xE, 0xF] := rfl

/-- Settles O42: the table's rows are written out, and each is its code's equation. -/
theorem conditionCodeTable : Obligations.ConditionCodeTable := by
  unfold Obligations.ConditionCodeTable
  intro f
  rw [range_sixteen]
  simp only [List.map_cons, List.map_nil]
  rw [condition_uc, condition_net, condition_z, condition_nz, condition_v, condition_nv, condition_n, condition_nn,
    condition_c, condition_nc, condition_sgt, condition_sle, condition_slt, condition_sge, condition_ugt, condition_ule]

end Sys2Proof.Proofs
end

section
/-! PROOFS of the statements about 40_arithmetic.md: the one-operand instructions CPL, CPLB, NEG, NEGB (R214 to R217). -/

namespace Sys2Proof.Machine

/-! ### The unary results, as the rules write them -/

theorem complement_word (a : Word) : complement a = logicResult (~~~a) a := logicFlagged_word _ _

theorem complement_byte (a : Byte) : complement a = logicResult (~~~a) a := logicFlagged_byte _ _

theorem negate_word (a : Word) : negate a = differenceResult 0 a false (fun r => decide (r = 0)) := subFlagged_word _ _ _

theorem negate_byte (a : Byte) : negate a = differenceResult 0 a false (fun r => decide (r = 0)) := subFlagged_byte _ _ _

/-! ### The unary template on a bank in memory -/

theorem unaryRw_eq {s : State} (h : bankReady s = true) (f : Word → Flagged 16) (n : Nib) :
    unaryRw f s n =
      .ok ((s.putWord (s.gprAddress n) (f (s.gpr n)).val).setFlagsFor (s.gprAddress n) (f (s.gpr n)).flags) := by
  simp [unaryRw, cpLegal_of_bank h, memReadW_gpr h, finishW_eq (canWriteW_gpr h n _)]

theorem unaryRb_eq {s : State} (h : bankReady s = true) (f : Byte → Flagged 8) (n : Nib) :
    unaryRb f s n =
      .ok ((s.putByte (s.gprByteAddress n) (f (s.gprByte n)).val).setFlagsFor (s.gprByteAddress n)
        (f (s.gprByte n)).flags) := by
  simp [unaryRb, cpLegal_of_bank h, memReadB_gpr h, finishB_eq (canWriteB_gpr h n _)]

/-- A one-operand word instruction on a GPR completes, whatever its operation `f` is. -/
theorem unaryRw_completes {s : State} (h : bankReady s = true) (f : Word → Flagged 16) (n : Nib) :
    Completes (complete 2 s (unaryRw f s n)) (fun t => WordResult s t (s.gprAddress n) (f (s.gpr n)) 2) := by
  rw [unaryRw_eq h, complete_ok]
  exact ⟨_, rfl, wordResult _ _ _ _⟩

/-- A one-operand byte instruction on a GPR completes, whatever its operation `f` is. -/
theorem unaryRb_completes {s : State} (h : bankReady s = true) (f : Byte → Flagged 8) (n : Nib) :
    Completes (complete 2 s (unaryRb f s n)) (fun t => ByteResult s t (s.gprByteAddress n) (f (s.gprByte n)) 2) := by
  rw [unaryRb_eq h, complete_ok]
  exact ⟨_, rfl, byteResult _ _ _ _⟩

/-! ### The four instructions as uses of the template -/

theorem exec_cpl (n : Nib) (s : State) : exec (.cpl n) s = complete 2 s (unaryRw complement s n) := rfl

theorem exec_cplb (n : Nib) (s : State) : exec (.cplb n) s = complete 2 s (unaryRb complement s n) := rfl

theorem exec_neg (n : Nib) (s : State) : exec (.neg n) s = complete 2 s (unaryRw negate s n) := rfl

theorem exec_negb (n : Nib) (s : State) : exec (.negb n) s = complete 2 s (unaryRb negate s n) := rfl

end Sys2Proof.Machine

namespace Sys2Proof.Proofs

open Sys2Proof.Machine

/-- Settles O8: the bytes are the encoder's own, and each instruction is the unary template at its operation, whose
result is put in the form of its rule. -/
theorem complementAndNegate : Obligations.ComplementAndNegate := by
  unfold Obligations.ComplementAndNegate
  constructor
  · exact fun n => ⟨rfl, rfl, rfl, rfl⟩
  · intro s n h
    rw [exec_cpl, exec_cplb, exec_neg, exec_negb, ← complement_word, ← complement_byte, ← negate_word, ← negate_byte]
    exact ⟨unaryRw_completes h complement n, unaryRb_completes h complement n, unaryRw_completes h negate n,
      unaryRb_completes h negate n⟩

end Sys2Proof.Proofs
end

section
/-! PROOFS of the statements about 42_bit_and_compare.md: the instructions on a pair of bits (R252 to R257). -/

namespace Sys2Proof.Machine

/-! ### The templates for a pair of bits that can be read -/

theorem combineBits_eq {s : State} {dst src : Byte} {z q : Nib} {f : Bool → Bool → Bool} {g : Bool → Bool → Flags}
    {d b : Bool} (hd : bitoffReady s dst = true) (hs : bitoffReady s src = true)
    (hrs : canReadW s (bitoffW s src) = true) (hrd : canReadW s (bitoffW s dst) = true)
    (ed : bitOf (s.wordAt (bitoffW s dst)) z = d) (eb : bitOf (s.wordAt (bitoffW s src)) q = b)
    (hw : canWriteW s (bitoffW s dst) (withBit (s.wordAt (bitoffW s dst)) z (f d b)) = true) :
    combineBits s dst z src q f g =
      .ok ((s.putWord (bitoffW s dst) (withBit (s.wordAt (bitoffW s dst)) z (f d b))).setFlagsFor (bitoffW s dst)
        (g d b)) := by
  subst ed eb
  rw [combineBits, readBit_eq hs hrs, ok_bind]
  exact updateBit_eq (f := (f · _)) (g := (g · _)) hd hrd hw

theorem compareBits_eq {s : State} {dst src : Byte} {z q : Nib} (hd : bitoffReady s dst = true)
    (hs : bitoffReady s src = true) (hrs : canReadW s (bitoffW s src) = true)
    (hrd : canReadW s (bitoffW s dst) = true) :
    compareBits s dst z src q =
      .ok (s.setFlags (twoBitFlags (bitOf (s.wordAt (bitoffW s dst)) z) (bitOf (s.wordAt (bitoffW s src)) q))) := by
  rw [compareBits, readBit_eq hs hrs, ok_bind, readBit_eq hd hrd, ok_bind, res_pure]

/-- An instruction with a source and a destination bit completes, whatever new bit `f` and flags `g` it makes of them. -/
theorem combineBits_completes {s : State} {dst src : Byte} {z q : Nib} {d b : Bool} (hd : bitoffReady s dst = true)
    (hs : bitoffReady s src = true) (hrs : canReadW s (bitoffW s src) = true)
    (hrd : canReadW s (bitoffW s dst) = true) (ed : bitOf (s.wordAt (bitoffW s dst)) z = d)
    (eb : bitOf (s.wordAt (bitoffW s src)) q = b) (f : Bool → Bool → Bool) (g : Bool → Bool → Flags)
    (hw : canWriteW s (bitoffW s dst) (withBit (s.wordAt (bitoffW s dst)) z (f d b)) = true) :
    Completes (complete 4 s (combineBits s dst z src q f g)) (fun t =>
      WordResult s t (bitoffW s dst) { val := withBit (s.wordAt (bitoffW s dst)) z (f d b), flags := g d b } 4) := by
  rw [combineBits_eq hd hs hrs hrd ed eb hw, complete_ok]
  exact ⟨_, rfl, wordResult _ _ { val := _, flags := _ } _⟩

/-- BCMP's template completes with the flags of the pair and nothing written. -/
theorem compareBits_completes {s : State} {dst src : Byte} {z q : Nib} (hd : bitoffReady s dst = true)
    (hs : bitoffReady s src = true) (hrs : canReadW s (bitoffW s src) = true)
    (hrd : canReadW s (bitoffW s dst) = true) :
    Completes (complete 4 s (compareBits s dst z src q)) (fun t =>
      FlagResult s t
        (twoBitFlags (bitOf (s.wordAt (bitoffW s dst)) z) (bitOf (s.wordAt (bitoffW s src)) q)) 4) := by
  rw [compareBits_eq hd hs hrs hrd, complete_ok]
  exact ⟨_, rfl, flagResult _ _ _⟩

/-! ### The six instructions as uses of the templates -/

theorem exec_bmov (dst src : Byte) (z q : Nib) (s : State) : exec (.bmov dst z src q) s =
    complete 4 s (combineBits s dst z src q (fun _ b => b) (fun _ b => bitFlags b)) := rfl

theorem exec_bmovn (dst src : Byte) (z q : Nib) (s : State) : exec (.bmovn dst z src q) s =
    complete 4 s (combineBits s dst z src q (fun _ b => !b) (fun _ b => bitFlags b)) := rfl

theorem exec_band (dst src : Byte) (z q : Nib) (s : State) : exec (.band dst z src q) s =
    complete 4 s (combineBits s dst z src q (fun d b => d && b) twoBitFlags) := rfl

theorem exec_bor (dst src : Byte) (z q : Nib) (s : State) : exec (.bor dst z src q) s =
    complete 4 s (combineBits s dst z src q (fun d b => d || b) twoBitFlags) := rfl

theorem exec_bxor (dst src : Byte) (z q : Nib) (s : State) : exec (.bxor dst z src q) s =
    complete 4 s (combineBits s dst z src q (fun d b => xor d b) twoBitFlags) := rfl

theorem exec_bcmp (dst src : Byte) (z q : Nib) (s : State) : exec (.bcmp dst z src q) s =
    complete 4 s (compareBits s dst z src q) := rfl

end Sys2Proof.Machine

namespace Sys2Proof.Proofs

open Sys2Proof.Machine

/-- Settles O11: five instructions are the template for a pair of bits at their new bit and flags, and BCMP is the one
that only reads; the flag functions are the rule's records by definition. -/
theorem bitOperations : Obligations.BitOperations := by
  unfold Obligations.BitOperations
  rintro s dst z src q hd hs hrs pa rfl hrd w rfl d rfl b rfl
  rw [exec_bmov, exec_bmovn, exec_band, exec_bor, exec_bxor, exec_bcmp]
  have pair := combineBits_completes (z := z) (q := q) hd hs hrs hrd rfl rfl
  exact ⟨pair (fun _ b => b) (fun _ b => bitFlags b), pair (fun _ b => !b) (fun _ b => bitFlags b),
    pair (fun d b => d && b) twoBitFlags, pair (fun d b => d || b) twoBitFlags, pair (fun d b => xor d b) twoBitFlags,
    compareBits_completes hd hs hrs hrd⟩

end Sys2Proof.Proofs
end

section
/-! PROOFS of the statements about 43_loop_prior_shift.md: PRIOR (R274). -/

namespace Sys2Proof.Machine

/-! ### The loop of PRIOR's Operation counts leading zeros -/

theorem getLsbD_fifteen (v : Word) : v.getLsbD 15 = decide (2 ^ 15 ≤ v.toNat) :=
  BitVec.msb_eq_decide v

/-- The loop ends at once on a word whose top bit is set. -/
theorem priorLoop_normalized {fuel count : Nat} {v : Word} (h : 2 ^ 15 ≤ v.toNat) : priorLoop fuel v count = count := by
  cases fuel with
  | zero => rfl
  | succ fuel =>
    rw [priorLoop, getLsbD_fifteen, decide_eq_true h, Bool.true_or]
    rfl

/-- A word whose top bit is clear is shifted once more and counted. -/
theorem priorLoop_shift {fuel count : Nat} {v : Word} (h : v.toNat < 2 ^ 15) (hc : count ≠ 15) :
    priorLoop (fuel + 1) v count = priorLoop fuel (v <<< 1) (count + 1) := by
  rw [priorLoop, getLsbD_fifteen, decide_eq_false (Nat.not_le.2 h), Bool.false_or, if_neg (by simpa using hc)]

theorem toNat_shiftLeft_one {v : Word} (h : v.toNat < 2 ^ 15) : (v <<< 1).toNat = 2 * v.toNat := by
  rw [BitVec.toNat_shiftLeft, Nat.shiftLeft_eq]
  omega

/-- From a non-zero word, with `fuel` turns left of the fifteen and enough of them to normalize it, the loop adds the
number of the word's leading zero bits to the count. -/
theorem priorLoop_eq_add {fuel count : Nat} {v : Word} (hv : v.toNat ≠ 0) (hf : fuel + count = 15)
    (hroom : 15 ≤ fuel + v.toNat.log2) : priorLoop fuel v count = count + (15 - v.toNat.log2) := by
  induction fuel generalizing v count with
  | zero =>
    have hcount : 15 - v.toNat.log2 = 0 := by omega
    rw [hcount]
    rfl
  | succ fuel ih =>
    by_cases htop : 2 ^ 15 ≤ v.toNat
    · have hlog : 15 ≤ v.toNat.log2 := (Nat.le_log2 hv).2 htop
      rw [priorLoop_normalized htop, Nat.sub_eq_zero_of_le hlog, Nat.add_zero]
    · have hlt : v.toNat < 2 ^ 15 := by omega
      have hlog : v.toNat.log2 < 15 := (Nat.log2_lt hv).2 hlt
      have hnext : (v <<< 1).toNat.log2 = v.toNat.log2 + 1 := by
        rw [toNat_shiftLeft_one hlt, Nat.log2_two_mul hv]
      rw [priorLoop_shift hlt (by omega), ih (by rw [toNat_shiftLeft_one hlt]; omega) (by omega) (by omega), hnext]
      omega

/-- The model's count is the count of the Operation's loop, which R274 runs for a non-zero operand only. -/
theorem priorCount_eq (v : Word) : priorCount v = if v = 0 then 0 else priorLoop 15 v 0 := by
  by_cases hv : v = 0
  · simp [priorCount, hv]
  · have hnat : v.toNat ≠ 0 := fun h => hv (BitVec.eq_of_toNat_eq h)
    rw [priorCount, if_neg hnat, if_neg hv, priorLoop_eq_add hnat rfl (by omega), Nat.zero_add]

/-! ### The instruction as a use of the word template -/

theorem exec_prior (n m : Nib) (s : State) : exec (.prior n m) s = complete 2 s (prioritize s n m) := rfl

theorem prioritize_eq {s : State} (h : bankReady s = true) (n m : Nib) :
    prioritize s n m =
      .ok ((s.putWord (s.gprAddress n) (BitVec.ofNat 16 (priorCount (s.gpr m)))).setFlagsFor (s.gprAddress n)
        ⟨false, zOf (s.gpr m), false, false, false⟩) := by
  rw [prioritize, readRw_eq h, ok_bind]
  exact toW_eq (rwAddress_eq (cpLegal_of_bank h) n) (canWriteW_gpr h n _)

end Sys2Proof.Machine

namespace Sys2Proof.Proofs

open Sys2Proof.Machine

/-- Settles O14: PRIOR writes the model's count, which is the loop's count by an induction on the turns left, and Z is
the test of op2 for 0. -/
theorem prioritizeCounts : Obligations.PrioritizeCounts := by
  unfold Obligations.PrioritizeCounts
  constructor
  · exact fun n m => rfl
  · intro s n m h
    rw [exec_prior, prioritize_eq h, complete_ok, priorCount_eq, zOf_eq]
    exact ⟨_, rfl, wordResult _ _ { val := _, flags := _ } _⟩

end Sys2Proof.Proofs
end

section
/-! PROOFS of the statements about 45_jump_call.md: the jumps that write nothing but IP and CSP (R343 to R347, R349). -/

namespace Sys2Proof.Machine

/-! ### The branch template: only IP changes -/

theorem branch_eq (s : State) (length : Nat) (taken : Bool) (target : Word) :
    branch s length taken target = { s with ip := if taken then target else s.ip + BitVec.ofNat 16 length } := rfl

/-- A branch on a condition that fails is a branch with the two ways exchanged. -/
theorem branch_not (s : State) (length : Nat) (b : Bool) (target : Word) :
    branch s length (!b) target = { s with ip := if b then s.ip + BitVec.ofNat 16 length else target } := by
  cases b with
  | false => rfl
  | true => rfl

theorem relTarget_ipNext (s : State) (length : Nat) (rel : Byte) :
    relTarget (s.ipNext length) rel = s.ip + BitVec.ofNat 16 length + 2 * rel.signExtend 16 := rfl

/-- On a bit that can be read, JB's and JNB's template is a branch on that bit having the wanted value. -/
theorem jumpOnBit_eq {s : State} {b : Byte} {p : Nib} (h : bitoffReady s b = true)
    (hr : canReadW s (bitoffW s b) = true) (wanted : Bool) (rel : Byte) :
    jumpOnBit s wanted b p rel =
      .ok (branch s 4 (bitOf (s.wordAt (bitoffW s b)) p == wanted) (relTarget (s.ipNext 4) rel)) := by
  rw [jumpOnBit, readBit_eq h hr, ok_bind, res_pure]

/-! ### The instructions as uses of the template -/

theorem exec_jmpa (cc : Nib) (caddr : Word) (s : State) :
    exec (.jmpa cc caddr) s = .next (branch s 4 (condition cc s.flags) caddr) := rfl

theorem exec_jmpr (cc : Nib) (rel : Byte) (s : State) :
    exec (.jmpr cc rel) s = .next (branch s 2 (condition cc s.flags) (relTarget (s.ipNext 2) rel)) := rfl

theorem exec_jmps (seg : Byte) (caddr : Word) (s : State) :
    exec (.jmps seg caddr) s = .next { s with csp := segOf s.cfg.variant seg, ip := caddr } := rfl

theorem exec_jmpi (cc n : Nib) (s : State) : exec (.jmpi cc n) s =
    if condition cc s.flags then settle (s.ipNext 2) ((readRw s n).map s.goto) else .next (s.goto (s.ipNext 2)) := rfl

/-- JMPI reads its GPR only when it branches, so only then must the bank lie in memory. -/
theorem exec_jmpi_eq_branch {s : State} {cc : Nib} (h : condition cc s.flags = true → bankReady s = true) (n : Nib) :
    exec (.jmpi cc n) s = .next (branch s 2 (condition cc s.flags) (s.gpr n)) := by
  rw [exec_jmpi, branch]
  by_cases taken : condition cc s.flags = true
  · rw [if_pos taken, if_pos taken, readRw_eq (h taken), ok_map, settle_ok]
  · rw [if_neg taken, if_neg taken]

theorem exec_jb (b : Byte) (p : Nib) (rel : Byte) (s : State) :
    exec (.jb b p rel) s = settle (s.ipNext 4) (jumpOnBit s true b p rel) := rfl

theorem exec_jnb (b : Byte) (p : Nib) (rel : Byte) (s : State) :
    exec (.jnb b p rel) s = settle (s.ipNext 4) (jumpOnBit s false b p rel) := rfl

end Sys2Proof.Machine

namespace Sys2Proof.Proofs

open Sys2Proof.Machine

/-- Settles O24: on a bit that can be read JB is the branch on the bit and JNB the branch on its complement; the bytes
are the encoder's own. -/
theorem bitJumps : Obligations.BitJumps := by
  unfold Obligations.BitJumps
  constructor
  · rintro s b p rel hb hr set rfl
    rw [exec_jb, exec_jnb, jumpOnBit_eq hb hr true, jumpOnBit_eq hb hr false, settle_ok, settle_ok, beq_true, beq_false,
      branch_eq, branch_not, relTarget_ipNext]
    exact ⟨rfl, rfl⟩
  · exact fun b p rel => ⟨rfl, rfl⟩

/-- Settles O22: the three conditional jumps are the branch template at their length and target, JMPS is the record
update itself, and the bytes are the encoder's own. -/
theorem absoluteAndRelativeJumps : Obligations.AbsoluteAndRelativeJumps := by
  unfold Obligations.AbsoluteAndRelativeJumps
  refine ⟨fun s cc caddr => ?jmpa, fun s cc n h => ?jmpi, fun s cc rel => ?jmpr,
    fun s seg caddr => exec_jmps seg caddr s, fun _ _ => rfl, fun _ _ => rfl, fun _ _ => rfl, fun _ _ => rfl⟩
  case jmpa =>
    rw [exec_jmpa, branch_eq]
    rfl
  case jmpi =>
    rw [exec_jmpi_eq_branch h, branch_eq]
    rfl
  case jmpr =>
    rw [exec_jmpr, branch_eq, relTarget_ipNext]
    rfl

end Sys2Proof.Proofs
end

section
/-! PROOFS of the statements about 47_system_control.md: NOP (R410). -/

namespace Sys2Proof.Machine

/-- NOP is the completion of two bytes around a body that leaves the state as it is. -/
theorem exec_nop (s : State) : exec .nop s = complete 2 s (.ok s) := rfl

end Sys2Proof.Machine

namespace Sys2Proof.Proofs

open Sys2Proof.Machine

/-- Settles O41: the bytes are the encoder's own, and the completion of an unchanged state moves IP past them. -/
theorem noOperation : Obligations.NoOperation := by
  unfold Obligations.NoOperation
  constructor
  · rfl
  · intro s
    rw [exec_nop, complete_ok]
    rfl

end Sys2Proof.Proofs
end

section
/-! PROOFS of the statements about 30_encoding.md: the decoder reads back what the encoder writes (R121, R122, R124). -/

namespace Sys2Proof

/-! ### Fields of bytes -/

/-- A byte is its two nibbles. -/
@[simp] theorem hi_append_lo (b : Byte) : hi b ++ lo b = b := by
  rw [hi, lo, BitVec.extractLsb'_append_extractLsb'_eq_extractLsb' (by decide)]
  exact BitVec.extractLsb'_eq_self

/-- Two bits over a nibble are the upper and the middle two bits of a byte. -/
theorem extract_upper_bits (x g : BitVec 2) (m : Nib) :
    (x ++ g ++ m : Byte).extractLsb' 6 2 = x ∧ (x ++ g ++ m : Byte).extractLsb' 4 2 = g := by
  constructor
  · exact (extract_nibble (k := 2) (x ++ g) m).trans (extract_high x g)
  · exact (extract_nibble (k := 0) (x ++ g) m).trans (extract_low x g)

/-- The fields of a byte of the form `n:xxii` (30_encoding.md R133). -/
theorem extract_pointer (n : Nib) (x i : BitVec 2) :
    (n ++ (x ++ i) : Byte).extractLsb' 2 2 = x ∧ (n ++ (x ++ i) : Byte).extractLsb' 0 2 = i :=
  ⟨(extract_low_nibble n (x ++ i) (by decide)).trans (extract_high x i),
    (extract_low_nibble n (x ++ i) (by decide)).trans (extract_low x i)⟩

/-- The fields of a byte of the form `n:0ddd` (30_encoding.md R133). -/
theorem extract_data3 (n : Nib) (d : BitVec 3) :
    (n ++ (0#1 ++ d) : Byte).extractLsb' 3 1 = 0#1 ∧ (n ++ (0#1 ++ d) : Byte).extractLsb' 0 3 = d :=
  ⟨(extract_low_nibble n (0#1 ++ d) (by decide)).trans (extract_high 0#1 d),
    (extract_low_nibble n (0#1 ++ d) (by decide)).trans (extract_low 0#1 d)⟩

/-- A byte of the form `n:0ddd` is none of the form `n:1xii`. -/
theorem extract_data3_not_pointer (n : Nib) (d : BitVec 3) :
    (n ++ (0#1 ++ d) : Byte).extractLsb' 2 2 ≠ 0b10#2 ∧ (n ++ (0#1 ++ d) : Byte).extractLsb' 2 2 ≠ 0b11#2 := by
  have top : ∀ d : BitVec 3, (0#1 ++ d : Nib).extractLsb' 2 2 ≠ 0b10#2 ∧ (0#1 ++ d : Nib).extractLsb' 2 2 ≠ 0b11#2 := by
    decide
  have field : (n ++ (0#1 ++ d) : Byte).extractLsb' 2 2 = (0#1 ++ d : Nib).extractLsb' 2 2 :=
    extract_low_nibble n (0#1 ++ d) (by decide)
  rw [field]
  exact top d

/-! ### Reading back, by the length of the instruction -/

/-- The decoder reads an instruction back from its bytes, on every device that has it and whatever follows. -/
def ReadsBack (i : Instr) : Prop := ∀ v rest, WellFormed v i → decode v (encode i ++ rest) = .ok (i, rest)

/-- What the SAB 8XC166 group defines, every device defines. -/
theorem undefinedFirst_of_sab {b0 : Byte} (h : undefinedFirst .sab8xc166 b0 = false) (v : Variant) :
    undefinedFirst v b0 = false := by
  cases v with
  | sab8xc166 => exact h
  | c167 =>
    rw [undefinedFirst, Bool.or_eq_false_iff] at h ⊢
    exact ⟨h.1, rfl⟩

/-- The starters of a sequence are well formed on the C167 group only. -/
theorem variant_of_starter {v : Variant} {i : Instr} (h : WellFormed v i) (hs : i.isStarter = true) : v = .c167 := by
  cases v with
  | c167 => rfl
  | sab8xc166 => simp [WellFormed, Instr.wellFormed, Variant.hasExt, hs] at h

theorem readsBack_of_two {i : Instr} {b0 b1 : Byte} (he : encode i = [b0, b1]) (hl : lengthOf b0 = 2)
    (hd : ∀ v, WellFormed v i → undefinedFirst v b0 = false) (hr : rowOf b0 b1 0 0 = some i) : ReadsBack i := by
  intro v rest hw
  simp [he, decode, decodeBytes, hd v hw, hl, ← BitVec.ofNat_eq_ofNat, hr, Except.map]

theorem readsBack_of_four {i : Instr} {b0 b1 b2 b3 : Byte} (he : encode i = [b0, b1, b2, b3]) (hl : lengthOf b0 = 4)
    (hd : ∀ v, WellFormed v i → undefinedFirst v b0 = false) (hr : rowOf b0 b1 b2 b3 = some i) : ReadsBack i := by
  intro v rest hw
  simp [he, decode, decodeBytes, hd v hw, hl, hr, Except.map]

/-- Two bytes whose first every device knows. -/
theorem readsBack_two {i : Instr} {b0 b1 : Byte} (he : encode i = [b0, b1]) (hl : lengthOf b0 = 2)
    (hk : undefinedFirst .sab8xc166 b0 = false) (hr : rowOf b0 b1 0 0 = some i) : ReadsBack i :=
  readsBack_of_two he hl (fun v _ => undefinedFirst_of_sab hk v) hr

/-- Four bytes whose first every device knows. -/
theorem readsBack_four {i : Instr} {b0 b1 b2 b3 : Byte} (he : encode i = [b0, b1, b2, b3]) (hl : lengthOf b0 = 4)
    (hk : undefinedFirst .sab8xc166 b0 = false) (hr : rowOf b0 b1 b2 b3 = some i) : ReadsBack i :=
  readsBack_of_four he hl (fun v _ => undefinedFirst_of_sab hk v) hr

/-- A starter's first byte is known where the starter is well formed. -/
theorem starter_known {i : Instr} {b0 : Byte} (hs : i.isStarter = true) (hk : undefinedFirst .c167 b0 = false) :
    ∀ v, WellFormed v i → undefinedFirst v b0 = false := by
  intro v hw
  rw [variant_of_starter hw hs]
  exact hk

/-! ### Reading back, by the format of the instruction (30_encoding.md R124, R133): `he` is the format string, `hr` the
row of the opcode map -/

/-- Format `nm`. -/
theorem readsBack_nibbles {f : Nib → Nib → Instr} {op : Byte} (he : ∀ n m, encode (f n m) = [op, n ++ m])
    (hl : lengthOf op = 2) (hk : undefinedFirst .sab8xc166 op = false)
    (hr : ∀ b1, rowOf op b1 0 0 = some (f (hi b1) (lo b1))) (n m : Nib) : ReadsBack (f n m) :=
  readsBack_two (he n m) hl hk (by rw [hr, hi_append, lo_append])

/-- Format `nm`, the operands in the other order. -/
theorem readsBack_nibblesSwapped {f : Nib → Nib → Instr} {op : Byte} (he : ∀ m n, encode (f m n) = [op, n ++ m])
    (hl : lengthOf op = 2) (hk : undefinedFirst .sab8xc166 op = false)
    (hr : ∀ b1, rowOf op b1 0 0 = some (f (lo b1) (hi b1))) (m n : Nib) : ReadsBack (f m n) :=
  readsBack_two (he m n) hl hk (by rw [hr, hi_append, lo_append])

/-- Format `n0`. -/
theorem readsBack_nibbleZero {f : Nib → Instr} {op : Byte} (he : ∀ n, encode (f n) = [op, n ++ 0#4])
    (hl : lengthOf op = 2) (hk : undefinedFirst .sab8xc166 op = false)
    (hr : ∀ b1, rowOf op b1 0 0 = if lo b1 = 0#4 then some (f (hi b1)) else none) (n : Nib) : ReadsBack (f n) :=
  readsBack_two (he n) hl hk (by rw [hr, hi_append, lo_append, if_pos rfl])

/-- Format `nn`. -/
theorem readsBack_nibbleTwice {f : Nib → Instr} {op : Byte} (he : ∀ n, encode (f n) = [op, n ++ n])
    (hl : lengthOf op = 2) (hk : undefinedFirst .sab8xc166 op = false)
    (hr : ∀ b1, rowOf op b1 0 0 = if lo b1 = hi b1 then some (f (hi b1)) else none) (n : Nib) : ReadsBack (f n) :=
  readsBack_two (he n) hl hk (by rw [hr, hi_append, lo_append, if_pos rfl])

/-- The three instructions that share a first byte of column x8 or x9, by the low nibble of the second byte. -/
def pointerRow (ind indInc : Nib → BitVec 2 → Instr) (data3 : Nib → BitVec 3 → Instr) (b1 : Byte) : Option Instr :=
  if b1.extractLsb' 2 2 = 0b10#2 then some (ind (hi b1) (b1.extractLsb' 0 2))
  else if b1.extractLsb' 2 2 = 0b11#2 then some (indInc (hi b1) (b1.extractLsb' 0 2))
  else if b1.extractLsb' 3 1 = 0#1 then some (data3 (hi b1) (b1.extractLsb' 0 3))
  else none

section PointerRow

variable {ind indInc : Nib → BitVec 2 → Instr} {data3 : Nib → BitVec 3 → Instr} {op : Byte}

/-- Format `n:10ii`. -/
theorem readsBack_ind (hr : ∀ b1, rowOf op b1 0 0 = pointerRow ind indInc data3 b1)
    (he : ∀ n i, encode (ind n i) = [op, n ++ (0b10#2 ++ i)]) (hl : lengthOf op = 2)
    (hk : undefinedFirst .sab8xc166 op = false) (n : Nib) (i : BitVec 2) : ReadsBack (ind n i) := by
  obtain ⟨field, index⟩ := extract_pointer n 0b10#2 i
  refine readsBack_two (he n i) hl hk ?_
  rw [hr, pointerRow, if_pos field, index, hi_append]

/-- Format `n:11ii`. -/
theorem readsBack_indInc (hr : ∀ b1, rowOf op b1 0 0 = pointerRow ind indInc data3 b1)
    (he : ∀ n i, encode (indInc n i) = [op, n ++ (0b11#2 ++ i)]) (hl : lengthOf op = 2)
    (hk : undefinedFirst .sab8xc166 op = false) (n : Nib) (i : BitVec 2) : ReadsBack (indInc n i) := by
  obtain ⟨field, index⟩ := extract_pointer n 0b11#2 i
  refine readsBack_two (he n i) hl hk ?_
  rw [hr, pointerRow, field, if_neg (by decide), if_pos rfl, index, hi_append]

/-- Format `n:0ddd`. -/
theorem readsBack_data3 (hr : ∀ b1, rowOf op b1 0 0 = pointerRow ind indInc data3 b1)
    (he : ∀ n d, encode (data3 n d) = [op, n ++ (0#1 ++ d)]) (hl : lengthOf op = 2)
    (hk : undefinedFirst .sab8xc166 op = false) (n : Nib) (d : BitVec 3) : ReadsBack (data3 n d) := by
  obtain ⟨field, data⟩ := extract_data3 n d
  obtain ⟨notInd, notIndInc⟩ := extract_data3_not_pointer n d
  refine readsBack_two (he n d) hl hk ?_
  rw [hr, pointerRow, if_neg notInd, if_neg notIndInc, if_pos field, data, hi_append]

end PointerRow

/-- Format `RR ww ww`. -/
theorem readsBack_byteWord {f : Byte → Word → Instr} {op : Byte}
    (he : ∀ b w, encode (f b w) = [op, b, lowByte w, highByte w]) (hl : lengthOf op = 4)
    (hk : undefinedFirst .sab8xc166 op = false) (hr : ∀ b1 b2 b3, rowOf op b1 b2 b3 = some (f b1 (b3 ++ b2))) (b : Byte)
    (w : Word) : ReadsBack (f b w) :=
  readsBack_four (he b w) hl hk (by rw [hr, high_append_low])

/-- Format `RR ww ww`, the word the first operand. -/
theorem readsBack_wordByte {f : Word → Byte → Instr} {op : Byte}
    (he : ∀ w b, encode (f w b) = [op, b, lowByte w, highByte w]) (hl : lengthOf op = 4)
    (hk : undefinedFirst .sab8xc166 op = false) (hr : ∀ b1 b2 b3, rowOf op b1 b2 b3 = some (f (b3 ++ b2) b1)) (w : Word)
    (b : Byte) : ReadsBack (f w b) :=
  readsBack_byteWord (f := fun b w => f w b) (fun b w => he w b) hl hk hr b w

/-- Formats `Fn ww ww` and `0n ww ww`: the high nibble `x` of the second byte is fixed. -/
theorem readsBack_fixedNibbleWord {f : Nib → Word → Instr} {op : Byte} (x : Nib)
    (he : ∀ n w, encode (f n w) = [op, x ++ n, lowByte w, highByte w]) (hl : lengthOf op = 4)
    (hk : undefinedFirst .sab8xc166 op = false)
    (hr : ∀ b1 b2 b3, rowOf op b1 b2 b3 = if hi b1 = x then some (f (lo b1) (b3 ++ b2)) else none) (n : Nib) (w : Word) :
    ReadsBack (f n w) :=
  readsBack_four (he n w) hl hk (by rw [hr, hi_append, lo_append, if_pos rfl, high_append_low])

/-- Format `c0 aa aa`. -/
theorem readsBack_nibbleZeroWord {f : Nib → Word → Instr} {op : Byte}
    (he : ∀ n w, encode (f n w) = [op, n ++ 0#4, lowByte w, highByte w]) (hl : lengthOf op = 4)
    (hk : undefinedFirst .sab8xc166 op = false)
    (hr : ∀ b1 b2 b3, rowOf op b1 b2 b3 = if lo b1 = 0#4 then some (f (hi b1) (b3 ++ b2)) else none) (n : Nib) (w : Word) :
    ReadsBack (f n w) :=
  readsBack_four (he n w) hl hk (by rw [hr, hi_append, lo_append, if_pos rfl, high_append_low])

/-- Format `nm ww ww`. -/
theorem readsBack_nibblesWord {f : Nib → Nib → Word → Instr} {op : Byte}
    (he : ∀ n m w, encode (f n m w) = [op, n ++ m, lowByte w, highByte w]) (hl : lengthOf op = 4)
    (hk : undefinedFirst .sab8xc166 op = false)
    (hr : ∀ b1 b2 b3, rowOf op b1 b2 b3 = some (f (hi b1) (lo b1) (b3 ++ b2))) (n m : Nib) (w : Word) :
    ReadsBack (f n m w) :=
  readsBack_four (he n m w) hl hk (by rw [hr, hi_append, lo_append, high_append_low])

/-- Format `QQ ZZ qz`. -/
theorem readsBack_twoBits {f : Byte → Nib → Byte → Nib → Instr} {op : Byte}
    (he : ∀ d z s q, encode (f d z s q) = [op, s, d, q ++ z]) (hl : lengthOf op = 4)
    (hk : undefinedFirst .sab8xc166 op = false)
    (hr : ∀ b1 b2 b3, rowOf op b1 b2 b3 = some (f b2 (lo b3) b1 (hi b3))) (d : Byte) (z : Nib) (s : Byte) (q : Nib) :
    ReadsBack (f d z s q) :=
  readsBack_four (he d z s q) hl hk (by rw [hr, hi_append, lo_append])

/-- Format `QQ rr q0`. -/
theorem readsBack_bitJump {f : Byte → Nib → Byte → Instr} {op : Byte}
    (he : ∀ b p r, encode (f b p r) = [op, b, r, p ++ 0#4]) (hl : lengthOf op = 4)
    (hk : undefinedFirst .sab8xc166 op = false)
    (hr : ∀ b1 b2 b3, rowOf op b1 b2 b3 = if lo b3 = 0#4 then some (f b1 (hi b3) b2) else none) (b : Byte) (p : Nib)
    (r : Byte) : ReadsBack (f b p r) :=
  readsBack_four (he b p r) hl hk (by rw [hr, hi_append, lo_append, if_pos rfl])

/-- Columns xD, xE, xF: the high nibble of the first byte is an operand. -/
theorem readsBack_firstNibble {f : Nib → Byte → Instr} (x : Nib) (he : ∀ n b, encode (f n b) = [n ++ x, b])
    (hl : ∀ n : Nib, lengthOf (n ++ x) = 2) (hk : ∀ n : Nib, undefinedFirst .sab8xc166 (n ++ x) = false)
    (hr : ∀ (n : Nib) b, rowOf (n ++ x) b 0 0 = some (f (hi (n ++ x)) b)) (n : Nib) (b : Byte) : ReadsBack (f n b) :=
  readsBack_two (he n b) (hl n) (hk n) (by rw [hr, hi_append])


/-- Format `t:ttt0`. -/
theorem readsBack_trap (t : BitVec 7) : ReadsBack (.trap t) := by
  refine readsBack_two (b1 := t ++ 0#1) rfl rfl rfl ?_
  have row : ∀ b1, rowOf 0x9B b1 0 0 =
      if b1.extractLsb' 0 1 = 0#1 then some (.trap (b1.extractLsb' 1 7)) else none := fun _ => rfl
  rw [row, extract_low, if_pos rfl, extract_high]

/-! ### The starters of a sequence (30_encoding.md R132, 47_system_control.md R399) -/

theorem rowOf_atomic_extr (b1 : Byte) : rowOf 0xD1 b1 0 0 =
    if b1.extractLsb' 6 2 = 0b00#2 ∧ lo b1 = 0#4 then some (.atomic (b1.extractLsb' 4 2))
    else if b1.extractLsb' 6 2 = 0b10#2 ∧ lo b1 = 0#4 then some (.extr (b1.extractLsb' 4 2))
    else none := rfl

theorem rowOf_extRw (b1 : Byte) : rowOf 0xDC b1 0 0 =
    if b1.extractLsb' 6 2 = 0b01#2 then some (.extpRw (lo b1) (b1.extractLsb' 4 2))
    else if b1.extractLsb' 6 2 = 0b11#2 then some (.extprRw (lo b1) (b1.extractLsb' 4 2))
    else if b1.extractLsb' 6 2 = 0b00#2 then some (.extsRw (lo b1) (b1.extractLsb' 4 2))
    else if b1.extractLsb' 6 2 = 0b10#2 then some (.extsrRw (lo b1) (b1.extractLsb' 4 2))
    else none := rfl

theorem rowOf_extConst (b1 b2 b3 : Byte) : rowOf 0xD7 b1 b2 b3 =
    if b1.extractLsb' 6 2 = 0b01#2 ∧ lo b1 = 0#4 ∧ b3.extractLsb' 2 6 = 0#6 then
      some (.extpPag (b3.extractLsb' 0 2 ++ b2) (b1.extractLsb' 4 2))
    else if b1.extractLsb' 6 2 = 0b11#2 ∧ lo b1 = 0#4 ∧ b3.extractLsb' 2 6 = 0#6 then
      some (.extprPag (b3.extractLsb' 0 2 ++ b2) (b1.extractLsb' 4 2))
    else if b1.extractLsb' 6 2 = 0b00#2 ∧ lo b1 = 0#4 ∧ b3 = 0x00#8 then some (.extsSeg b2 (b1.extractLsb' 4 2))
    else if b1.extractLsb' 6 2 = 0b10#2 ∧ lo b1 = 0#4 ∧ b3 = 0x00#8 then some (.extsrSeg b2 (b1.extractLsb' 4 2))
    else none := rfl

/-- A page number put together from the two fields of its format. -/
theorem page_append (p : BitVec 10) : p.extractLsb' 8 2 ++ p.extractLsb' 0 8 = p := by
  rw [BitVec.extractLsb'_append_extractLsb'_eq_extractLsb' (by decide)]
  exact BitVec.extractLsb'_eq_self

/-- A starter without operand but its range, given that the row of D1H answers it for the bits `x` of the second byte. -/
theorem readsBack_extRange {i : Instr} {g : BitVec 2} (x : BitVec 2) (he : encode i = [0xD1, x ++ g ++ 0#4])
    (hs : i.isStarter = true)
    (hr : ∀ b1, b1.extractLsb' 6 2 = x → b1.extractLsb' 4 2 = g → lo b1 = 0#4 → rowOf 0xD1 b1 0 0 = some i) :
    ReadsBack i :=
  readsBack_of_two he rfl (starter_known hs rfl)
    (hr _ (extract_upper_bits x g 0#4).1 (extract_upper_bits x g 0#4).2 (lo_append _ 0#4))

/-- A starter with a GPR, given that the row of DCH answers it for the bits `x` of the second byte. -/
theorem readsBack_extRw {i : Instr} {m : Nib} {g : BitVec 2} (x : BitVec 2) (he : encode i = [0xDC, x ++ g ++ m])
    (hs : i.isStarter = true)
    (hr : ∀ b1, b1.extractLsb' 6 2 = x → b1.extractLsb' 4 2 = g → lo b1 = m → rowOf 0xDC b1 0 0 = some i) :
    ReadsBack i :=
  readsBack_of_two he rfl (starter_known hs rfl)
    (hr _ (extract_upper_bits x g m).1 (extract_upper_bits x g m).2 (lo_append _ m))

/-- A starter with a page or segment, given that the row of D7H answers it for the bits `x` of the second byte. -/
theorem readsBack_extConst {i : Instr} {b2 b3 : Byte} {g : BitVec 2} (x : BitVec 2)
    (he : encode i = [0xD7, x ++ g ++ 0#4, b2, b3]) (hs : i.isStarter = true)
    (hr : ∀ b1, b1.extractLsb' 6 2 = x → b1.extractLsb' 4 2 = g → lo b1 = 0#4 → rowOf 0xD7 b1 b2 b3 = some i) :
    ReadsBack i :=
  readsBack_of_four he rfl (starter_known hs rfl)
    (hr _ (extract_upper_bits x g 0#4).1 (extract_upper_bits x g 0#4).2 (lo_append _ 0#4))

/-! ### Every instruction, by its format -/

theorem readsBack (i : Instr) : ReadsBack i := by
  cases i with
  | addRwRw _ _ | addbRbRb _ _ | addcRwRw _ _ | addcbRbRb _ _ | subRwRw _ _ | subbRbRb _ _ | subcRwRw _ _
  | subcbRbRb _ _ | cmpRwRw _ _ | cmpbRbRb _ _ | xorRwRw _ _ | xorbRbRb _ _ | andRwRw _ _ | andbRbRb _ _
  | orRwRw _ _ | orbRbRb _ _ | mul _ _ | mulu _ _ | prior _ _ | shlRwRw _ _ | shrRwRw _ _ | rolRwRw _ _
  | rorRwRw _ _ | ashrRwRw _ _ | movRwRw _ _ | movRwInd _ _ | movRwIndInc _ _ | movIndInd _ _ | movIndIncInd _ _
  | movIndIndInc _ _ | movbRbRb _ _ | movbRbInd _ _ | movbRbIndInc _ _ | movbIndInd _ _ | movbIndIncInd _ _
  | movbIndIndInc _ _ | jmpi _ _ | calli _ _ =>
    exact readsBack_nibbles (fun _ _ => rfl) rfl rfl (fun _ => rfl) _ _
  | addRwInd _ _ | addbRbInd _ _ | addcRwInd _ _ | addcbRbInd _ _ | subRwInd _ _ | subbRbInd _ _ | subcRwInd _ _
  | subcbRbInd _ _ | cmpRwInd _ _ | cmpbRbInd _ _ | xorRwInd _ _ | xorbRbInd _ _ | andRwInd _ _ | andbRbInd _ _
  | orRwInd _ _ | orbRbInd _ _ =>
    exact readsBack_ind (fun _ => rfl) (fun _ _ => rfl) rfl rfl _ _
  | addRwIndInc _ _ | addbRbIndInc _ _ | addcRwIndInc _ _ | addcbRbIndInc _ _ | subRwIndInc _ _
  | subbRbIndInc _ _ | subcRwIndInc _ _ | subcbRbIndInc _ _ | cmpRwIndInc _ _ | cmpbRbIndInc _ _
  | xorRwIndInc _ _ | xorbRbIndInc _ _ | andRwIndInc _ _ | andbRbIndInc _ _ | orRwIndInc _ _ | orbRbIndInc _ _ =>
    exact readsBack_indInc (fun _ => rfl) (fun _ _ => rfl) rfl rfl _ _
  | addRwData3 _ _ | addbRbData3 _ _ | addcRwData3 _ _ | addcbRbData3 _ _ | subRwData3 _ _ | subbRbData3 _ _
  | subcRwData3 _ _ | subcbRbData3 _ _ | cmpRwData3 _ _ | cmpbRbData3 _ _ | xorRwData3 _ _ | xorbRbData3 _ _
  | andRwData3 _ _ | andbRbData3 _ _ | orRwData3 _ _ | orbRbData3 _ _ =>
    exact readsBack_data3 (fun _ => rfl) (fun _ _ => rfl) rfl rfl _ _
  | addRegData16 _ _ | addRegMem _ _ | addbRegMem _ _ | addcRegData16 _ _ | addcRegMem _ _ | addcbRegMem _ _
  | subRegData16 _ _ | subRegMem _ _ | subbRegMem _ _ | subcRegData16 _ _ | subcRegMem _ _ | subcbRegMem _ _
  | cmpRegData16 _ _ | cmpRegMem _ _ | cmpbRegMem _ _ | xorRegData16 _ _ | xorRegMem _ _ | xorbRegMem _ _
  | andRegData16 _ _ | andRegMem _ _ | andbRegMem _ _ | orRegData16 _ _ | orRegMem _ _ | orbRegMem _ _
  | movRegData16 _ _ | movRegMem _ _ | movbRegMem _ _ | movbsRegMem _ _ | movbzRegMem _ _ | jmps _ _ | calls _ _
  | pcall _ _ | scxtRegData16 _ _ | scxtRegMem _ _ =>
    exact readsBack_byteWord (fun _ _ => rfl) rfl rfl (fun _ _ _ => rfl) _ _
  | addMemReg _ _ | addbMemReg _ _ | addcMemReg _ _ | addcbMemReg _ _ | subMemReg _ _ | subbMemReg _ _
  | subcMemReg _ _ | subcbMemReg _ _ | xorMemReg _ _ | xorbMemReg _ _ | andMemReg _ _ | andbMemReg _ _
  | orMemReg _ _ | orbMemReg _ _ | movMemReg _ _ | movbMemReg _ _ | movbsMemReg _ _ | movbzMemReg _ _ =>
    exact readsBack_wordByte (fun _ _ => rfl) rfl rfl (fun _ _ _ => rfl) _ _
  | addbRegData8 _ _ | addcbRegData8 _ _ | subbRegData8 _ _ | subcbRegData8 _ _ | cmpbRegData8 _ _
  | xorbRegData8 _ _ | andbRegData8 _ _ | orbRegData8 _ _ | movbRegData8 _ _ | bfldh _ _ _ | bfldl _ _ _ | srst
  | idle | pwrdn | srvwdt | diswdt | einit =>
    exact readsBack_four rfl rfl rfl rfl
  | div _ | divl _ | divlu _ | divu _ =>
    exact readsBack_nibbleTwice (fun _ => rfl) rfl rfl (fun _ => rfl) _
  | cpl _ | cplb _ | neg _ | negb _ =>
    exact readsBack_nibbleZero (fun _ => rfl) rfl rfl (fun _ => rfl) _
  | bclr _ _ =>
    exact readsBack_firstNibble (f := fun p b => .bclr b p)
      0xE#4 (fun _ _ => rfl) (by decide) (by decide) (fun n b => by rw [rowOf, lo_append]; rfl) _ _
  | bset _ _ =>
    exact readsBack_firstNibble (f := fun p b => .bset b p)
      0xF#4 (fun _ _ => rfl) (by decide) (by decide) (fun n b => by rw [rowOf, lo_append]; rfl) _ _
  | bmov _ _ _ _ | bmovn _ _ _ _ | band _ _ _ _ | bor _ _ _ _ | bxor _ _ _ _ | bcmp _ _ _ _ =>
    exact readsBack_twoBits (fun _ _ _ _ => rfl) rfl rfl (fun _ _ _ => rfl) _ _ _ _
  | cmpd1RwData4 _ _ | cmpd2RwData4 _ _ | cmpi1RwData4 _ _ | cmpi2RwData4 _ _ | shlRwData4 _ _ | shrRwData4 _ _
  | rolRwData4 _ _ | rorRwData4 _ _ | ashrRwData4 _ _ | movRwData4 _ _ | movIndRw _ _ | movPreDecRw _ _
  | movbRbData4 _ _ | movbIndRb _ _ | movbPreDecRb _ _ | movbsRwRb _ _ | movbzRwRb _ _ =>
    exact readsBack_nibblesSwapped (fun _ _ => rfl) rfl rfl (fun _ => rfl) _ _
  | cmpd1RwData16 _ _ | cmpd1RwMem _ _ | cmpd2RwData16 _ _ | cmpd2RwMem _ _ | cmpi1RwData16 _ _ | cmpi1RwMem _ _
  | cmpi2RwData16 _ _ | cmpi2RwMem _ _ =>
    exact readsBack_fixedNibbleWord 0xF#4 (fun _ _ => rfl) rfl rfl (fun _ _ _ => rfl) _ _
  | movRwDisp _ _ _ | movbRbDisp _ _ _ =>
    exact readsBack_nibblesWord (fun _ _ _ => rfl) rfl rfl (fun _ _ _ => rfl) _ _ _
  | movDispRw _ _ _ =>
    exact readsBack_nibblesWord (f := fun n m w => .movDispRw m w n)
      (fun _ _ _ => rfl) rfl rfl (fun _ _ _ => rfl) _ _ _
  | movbDispRb _ _ _ =>
    exact readsBack_nibblesWord (f := fun n m w => .movbDispRb m w n)
      (fun _ _ _ => rfl) rfl rfl (fun _ _ _ => rfl) _ _ _
  | movIndMem _ _ | movbIndMem _ _ =>
    exact readsBack_fixedNibbleWord 0x0#4 (fun _ _ => rfl) rfl rfl (fun _ _ _ => rfl) _ _
  | movMemInd _ _ =>
    exact readsBack_fixedNibbleWord (f := fun n w => .movMemInd w n)
      0x0#4 (fun _ _ => rfl) rfl rfl (fun _ _ _ => rfl) _ _
  | movbMemInd _ _ =>
    exact readsBack_fixedNibbleWord (f := fun n w => .movbMemInd w n)
      0x0#4 (fun _ _ => rfl) rfl rfl (fun _ _ _ => rfl) _ _
  | jmpa _ _ | calla _ _ =>
    exact readsBack_nibbleZeroWord (fun _ _ => rfl) rfl rfl (fun _ _ _ => rfl) _ _
  | jmpr _ _ =>
    exact readsBack_firstNibble
      0xD#4 (fun _ _ => rfl) (by decide) (by decide) (fun n b => by rw [rowOf, lo_append]; rfl) _ _
  | jb _ _ _ | jbc _ _ _ | jnb _ _ _ | jnbs _ _ _ =>
    exact readsBack_bitJump (fun _ _ _ => rfl) rfl rfl (fun _ _ _ => rfl) _ _ _
  | callr _ | pop _ | push _ | retp _ | ret | rets | nop | reti =>
    exact readsBack_two rfl rfl rfl rfl
  | trap _ =>
    exact readsBack_trap _
  | atomic _ =>
    exact readsBack_extRange 0b00#2 rfl rfl
      fun b1 mode range zero => by rw [rowOf_atomic_extr, mode, range, zero]; rfl
  | extr _ =>
    exact readsBack_extRange 0b10#2 rfl rfl
      fun b1 mode range zero => by rw [rowOf_atomic_extr, mode, range, zero]; rfl
  | extpRw _ _ =>
    exact readsBack_extRw 0b01#2 rfl rfl fun b1 mode range gpr => by rw [rowOf_extRw, mode, range, gpr]; rfl
  | extpPag _ _ =>
    exact readsBack_extConst 0b01#2 rfl rfl
      fun b1 mode range zero => by rw [rowOf_extConst, mode, range, zero, extract_high, extract_low, page_append]; rfl
  | extprRw _ _ =>
    exact readsBack_extRw 0b11#2 rfl rfl fun b1 mode range gpr => by rw [rowOf_extRw, mode, range, gpr]; rfl
  | extprPag _ _ =>
    exact readsBack_extConst 0b11#2 rfl rfl
      fun b1 mode range zero => by rw [rowOf_extConst, mode, range, zero, extract_high, extract_low, page_append]; rfl
  | extsRw _ _ =>
    exact readsBack_extRw 0b00#2 rfl rfl fun b1 mode range gpr => by rw [rowOf_extRw, mode, range, gpr]; rfl
  | extsSeg _ _ =>
    exact readsBack_extConst 0b00#2 rfl rfl
      fun b1 mode range zero => by rw [rowOf_extConst, mode, range, zero]; rfl
  | extsrRw _ _ =>
    exact readsBack_extRw 0b10#2 rfl rfl fun b1 mode range gpr => by rw [rowOf_extRw, mode, range, gpr]; rfl
  | extsrSeg _ _ =>
    exact readsBack_extConst 0b10#2 rfl rfl
      fun b1 mode range zero => by rw [rowOf_extConst, mode, range, zero]; rfl

end Sys2Proof

namespace Sys2Proof.Proofs

/-- Settles O58: an instruction's format says where each operand stands in its bytes, and the row of the opcode map takes
it from there. -/
theorem decodeEncodeAgree : Obligations.DecodeEncodeAgree := by
  unfold Obligations.DecodeEncodeAgree
  exact fun v i rest hw => readsBack i v rest hw

end Sys2Proof.Proofs
end

section
/-! PROOFS of the statements about 30_encoding.md: bytes that decode are the encoding of what they decode to (R150 to R153). -/

namespace Sys2Proof

/-! ### Bytes put together again from their fields -/

theorem hi_append_of_lo {b : Byte} {x : Nib} (h : lo b = x) : hi b ++ x = b := by
  rw [← h, hi_append_lo]

theorem append_lo_of_hi {b : Byte} {x : Nib} (h : hi b = x) : x ++ lo b = b := by
  rw [← h, hi_append_lo]

theorem bits_append_lo {b : Byte} {x : BitVec 2} (h : b.extractLsb' 6 2 = x) : x ++ b.extractLsb' 4 2 ++ lo b = b := by
  rw [← h, BitVec.extractLsb'_append_extractLsb'_eq_extractLsb' (by decide)]
  exact hi_append_lo b

theorem hi_append_pointer {b : Byte} {x : BitVec 2} (h : b.extractLsb' 2 2 = x) :
    hi b ++ (x ++ b.extractLsb' 0 2) = b := by
  rw [← h, BitVec.extractLsb'_append_extractLsb'_eq_extractLsb' (by decide)]
  exact hi_append_lo b

theorem hi_append_data3 {b : Byte} (h : b.extractLsb' 3 1 = 0) : hi b ++ (0#1 ++ b.extractLsb' 0 3) = b := by
  rw [← BitVec.ofNat_eq_ofNat, ← h, BitVec.extractLsb'_append_extractLsb'_eq_extractLsb' (by decide)]
  exact hi_append_lo b

theorem upper_append_bit {b : Byte} (h : b.extractLsb' 0 1 = 0) : b.extractLsb' 1 7 ++ 0#1 = b := by
  rw [← BitVec.ofNat_eq_ofNat, ← h, BitVec.extractLsb'_append_extractLsb'_eq_extractLsb' (by decide)]
  exact BitVec.extractLsb'_eq_self

theorem zero_append_pair {b : Byte} (h : b.extractLsb' 2 6 = 0) : 0#6 ++ b.extractLsb' 0 2 = b := by
  rw [← BitVec.ofNat_eq_ofNat, ← h, BitVec.extractLsb'_append_extractLsb'_eq_extractLsb' (by decide)]
  exact BitVec.extractLsb'_eq_self

@[simp] theorem lowByte_append (x y : Byte) : lowByte (x ++ y) = y := extract_low x y

@[simp] theorem highByte_append (x y : Byte) : highByte (x ++ y) = x := extract_high x y

/-! ### Rows of a column -/

/-- A nibble is one of the sixteen rows of the opcode map (30_encoding.md R131). -/
theorem nib_rows {P : Nib → Prop} (r0 : P 0x0#4) (r1 : P 0x1#4) (r2 : P 0x2#4) (r3 : P 0x3#4) (r4 : P 0x4#4)
    (r5 : P 0x5#4) (r6 : P 0x6#4) (r7 : P 0x7#4) (r8 : P 0x8#4) (r9 : P 0x9#4) (rA : P 0xA#4) (rB : P 0xB#4)
    (rC : P 0xC#4) (rD : P 0xD#4) (rE : P 0xE#4) (rF : P 0xF#4) (n : Nib) : P n := by
  have rows : ∀ n : Nib, n = 0x0#4 ∨ n = 0x1#4 ∨ n = 0x2#4 ∨ n = 0x3#4 ∨ n = 0x4#4 ∨ n = 0x5#4 ∨ n = 0x6#4 ∨ n = 0x7#4 ∨
      n = 0x8#4 ∨ n = 0x9#4 ∨ n = 0xA#4 ∨ n = 0xB#4 ∨ n = 0xC#4 ∨ n = 0xD#4 ∨ n = 0xE#4 ∨ n = 0xF#4 := by decide
  rcases rows n with rfl | rfl | rfl | rfl | rfl | rfl | rfl | rfl | rfl | rfl | rfl | rfl | rfl | rfl | rfl | rfl <;>
    assumption

/-- A row with a condition on fixed bits answers its instruction only where the condition holds. -/
theorem row_eq_some {c : Prop} [Decidable c] {a i : Instr} (h : (if c then some a else none) = some i) : c ∧ a = i := by
  simpa [Option.ite_none_right_eq_some] using h

/-- What a row of columns x8 and x9 answers is written as the byte it was read from. -/
theorem pointerRow_encode {ind indInc : Nib → BitVec 2 → Instr} {data3 : Nib → BitVec 3 → Instr} {op b1 : Byte} {i : Instr}
    (hr : pointerRow ind indInc data3 b1 = some i) (hInd : ∀ n i, encode (ind n i) = [op, n ++ (0b10#2 ++ i)])
    (hInc : ∀ n i, encode (indInc n i) = [op, n ++ (0b11#2 ++ i)])
    (hData : ∀ n d, encode (data3 n d) = [op, n ++ (0#1 ++ d)]) : encode i = [op, b1] := by
  unfold pointerRow at hr
  split at hr
  next field =>
    cases hr
    rw [hInd, hi_append_pointer field]
  next =>
    split at hr
    next field =>
      cases hr
      rw [hInc, hi_append_pointer field]
    next =>
      obtain ⟨field, rfl⟩ := row_eq_some hr
      rw [hData, hi_append_data3 field]

/-! ### Column by column: what a column answers is written as the bytes it was read from -/

variable {h : Nib} {b1 b2 b3 : Byte} {i : Instr}

theorem column0_encode (hr : column0 h b1 = some i) : encode i = [h ++ 0x0#4, b1] := by
  induction h using nib_rows <;>
  · cases hr
    exact congrArg (fun b => [_, b]) (hi_append_lo b1)

theorem column1_encode (hr : column1 h b1 = some i) : encode i = [h ++ 0x1#4, b1] := by
  induction h using nib_rows with
  | r0 | r1 | r2 | r3 | r4 | r5 | r6 | r7 | rE | rF =>
    cases hr
    exact congrArg (fun b => [_, b]) (hi_append_lo b1)
  | r8 | r9 | rA | rB =>
    obtain ⟨zero, rfl⟩ := row_eq_some hr
    exact congrArg (fun b => [_, b]) (hi_append_of_lo zero)
  | rC => cases hr
  | rD =>
    change rowOf 0xD1 b1 0 0 = some i at hr
    rw [rowOf_atomic_extr] at hr
    split at hr
    next field =>
      obtain ⟨mode, zero⟩ := field
      cases hr
      rw [encode, ← zero, bits_append_lo mode]
      rfl
    next =>
      obtain ⟨⟨mode, zero⟩, rfl⟩ := row_eq_some hr
      rw [encode, ← zero, bits_append_lo mode]
      rfl

theorem column2_encode (hr : column2 h b1 b2 b3 = some i) : encode i = [h ++ 0x2#4, b1, b2, b3] := by
  induction h using nib_rows with
  | r0 | r1 | r2 | r3 | r4 | r5 | r6 | r7 | rC | rD | rE | rF =>
    cases hr
    simp only [encode, lowByte_append, highByte_append]
    rfl
  | r8 | r9 | rA | rB =>
    obtain ⟨(fixed : hi b1 = 0xF#4), rfl⟩ := row_eq_some hr
    simp only [encode, lowByte_append, highByte_append, append_lo_of_hi fixed]
    rfl

theorem column3_encode (hr : column3 h b1 b2 b3 = some i) : encode i = [h ++ 0x3#4, b1, b2, b3] := by
  induction h using nib_rows with
  | r0 | r1 | r2 | r3 | r4 | r5 | r6 | r7 | rF =>
    cases hr
    simp only [encode, lowByte_append, highByte_append]
    rfl
  | r8 | r9 | rA | rB | rC | rD | rE => cases hr

theorem column4_encode (hr : column4 h b1 b2 b3 = some i) : encode i = [h ++ 0x4#4, b1, b2, b3] := by
  induction h using nib_rows with
  | r0 | r1 | r2 | r3 | r5 | r6 | r7 | rC | rD | rE | rF =>
    cases hr
    simp only [encode, lowByte_append, highByte_append, hi_append_lo]
    rfl
  | r8 | r9 | rA | rB =>
    obtain ⟨(fixed : hi b1 = 0x0#4), rfl⟩ := row_eq_some hr
    simp only [encode, lowByte_append, highByte_append, append_lo_of_hi fixed]
    rfl
  | r4 => cases hr

/-- Column x5; DISWDT and EINIT stand on all their bytes (30_encoding.md R153). -/
theorem column5_encode (hr : column5 h b1 b2 b3 = some i) : encode i = [h ++ 0x5#4, b1, b2, b3] := by
  induction h using nib_rows with
  | r0 | r1 | r2 | r3 | r5 | r6 | r7 | rC | rD =>
    cases hr
    simp only [encode, lowByte_append, highByte_append]
    rfl
  | rA | rB =>
    obtain ⟨⟨rfl, rfl, rfl⟩, rfl⟩ := row_eq_some hr
    rfl
  | r4 | r8 | r9 | rE | rF => cases hr

theorem column6_encode (hr : column6 h b1 b2 b3 = some i) : encode i = [h ++ 0x6#4, b1, b2, b3] := by
  induction h using nib_rows with
  | r0 | r1 | r2 | r3 | r4 | r5 | r6 | r7 | rC | rD | rE | rF =>
    cases hr
    simp only [encode, lowByte_append, highByte_append]
    rfl
  | r8 | r9 | rA | rB =>
    obtain ⟨(fixed : hi b1 = 0xF#4), rfl⟩ := row_eq_some hr
    simp only [encode, lowByte_append, highByte_append, append_lo_of_hi fixed]
    rfl

/-- The row of D7H, the starters with a page or a segment. -/
theorem extConst_encode (hr : rowOf 0xD7 b1 b2 b3 = some i) : encode i = [0xD7, b1, b2, b3] := by
  rw [rowOf_extConst] at hr
  split at hr
  next field =>
    obtain ⟨mode, zero, fixed⟩ := field
    cases hr
    simp only [encode, extract_low, extract_high, zero_append_pair fixed, ← zero, bits_append_lo mode]
  next =>
    split at hr
    next field =>
      obtain ⟨mode, zero, fixed⟩ := field
      cases hr
      simp only [encode, extract_low, extract_high, zero_append_pair fixed, ← zero, bits_append_lo mode]
    next =>
      split at hr
      next field =>
        obtain ⟨mode, zero, rfl⟩ := field
        cases hr
        simp only [encode, ← zero, bits_append_lo mode]
        rfl
      next =>
        obtain ⟨⟨mode, zero, rfl⟩, rfl⟩ := row_eq_some hr
        simp only [encode, ← zero, bits_append_lo mode]
        rfl

/-- Column x7: a byte instruction `reg, #data8` does not look at its last byte (30_encoding.md R124), the others do. -/
theorem column7_encode (hr : column7 h b1 b2 b3 = some i) :
    encode i = [h ++ 0x7#4, b1, b2, b3] ∨
      (h ++ 0x7#4 : Byte) ∈ [0x07#8, 0x17#8, 0x27#8, 0x37#8, 0x47#8, 0x57#8, 0x67#8, 0x77#8, 0xE7#8] ∧
        encode i = [h ++ 0x7#4, b1, b2, 0x00#8] := by
  induction h using nib_rows with
  | r0 | r1 | r2 | r3 | r4 | r5 | r6 | r7 | rE =>
    cases hr
    exact .inr ⟨by decide, rfl⟩
  | r8 | r9 | rA | rB =>
    obtain ⟨⟨rfl, rfl, rfl⟩, rfl⟩ := row_eq_some hr
    exact .inl rfl
  | rD => exact .inl (extConst_encode hr)
  | rF =>
    cases hr
    left
    simp only [encode, lowByte_append, highByte_append]
    rfl
  | rC => cases hr

theorem column8_encode (hr : column8 h b1 = some i) : encode i = [h ++ 0x8#4, b1] := by
  induction h using nib_rows with
  | r0 | r1 | r2 | r3 | r4 | r5 | r6 | r7 =>
    exact pointerRow_encode hr (fun _ _ => rfl) (fun _ _ => rfl) (fun _ _ => rfl)
  | r8 | r9 | rA | rB | rC | rD | rE =>
    cases hr
    exact congrArg (fun b => [_, b]) (hi_append_lo b1)
  | rF => cases hr

theorem column9_encode (hr : column9 h b1 = some i) : encode i = [h ++ 0x9#4, b1] := by
  induction h using nib_rows with
  | r0 | r1 | r2 | r3 | r4 | r5 | r6 | r7 =>
    exact pointerRow_encode hr (fun _ _ => rfl) (fun _ _ => rfl) (fun _ _ => rfl)
  | r8 | r9 | rA | rB | rC | rD | rE =>
    cases hr
    exact congrArg (fun b => [_, b]) (hi_append_lo b1)
  | rF => cases hr

theorem columnA_encode (hr : columnA h b1 b2 b3 = some i) : encode i = [h ++ 0xA#4, b1, b2, b3] := by
  induction h using nib_rows with
  | r0 | r1 =>
    cases hr
    rfl
  | r2 | r3 | r4 | r5 | r6 | r7 =>
    cases hr
    exact congrArg (fun b => [_, _, _, b]) (hi_append_lo b3)
  | r8 | r9 | rA | rB =>
    obtain ⟨zero, rfl⟩ := row_eq_some hr
    exact congrArg (fun b => [_, _, _, b]) (hi_append_of_lo zero)
  | rC | rE =>
    obtain ⟨(zero : lo b1 = 0x0#4), rfl⟩ := row_eq_some hr
    simp only [encode, lowByte_append, highByte_append, hi_append_of_lo zero]
    rfl
  | rD | rF =>
    cases hr
    simp only [encode, lowByte_append, highByte_append]
    rfl

theorem columnB_encode (hr : columnB h b1 = some i) : encode i = [h ++ 0xB#4, b1] := by
  induction h using nib_rows with
  | r0 | r1 | r2 | rA =>
    cases hr
    exact congrArg (fun b => [_, b]) (hi_append_lo b1)
  | r4 | r5 | r6 | r7 =>
    obtain ⟨same, rfl⟩ := row_eq_some hr
    exact congrArg (fun b => [_, b]) (hi_append_of_lo same)
  | r9 =>
    obtain ⟨zero, rfl⟩ := row_eq_some hr
    exact congrArg (fun b => [_, b]) (upper_append_bit zero)
  | rB | rE =>
    cases hr
    rfl
  | rC | rD | rF =>
    obtain ⟨rfl, rfl⟩ := row_eq_some hr
    rfl
  | r3 | r8 => cases hr

/-- The row of DCH, the starters with a GPR. -/
theorem extRw_encode (hr : rowOf 0xDC b1 0 0 = some i) : encode i = [0xDC, b1] := by
  rw [rowOf_extRw] at hr
  split at hr
  next mode =>
    cases hr
    rw [encode, bits_append_lo mode]
  next =>
    split at hr
    next mode =>
      cases hr
      rw [encode, bits_append_lo mode]
    next =>
      split at hr
      next mode =>
        cases hr
        rw [encode, bits_append_lo mode]
      next =>
        obtain ⟨mode, rfl⟩ := row_eq_some hr
        rw [encode, bits_append_lo mode]

theorem columnC_encode (hr : columnC h b1 = some i) : encode i = [h ++ 0xC#4, b1] := by
  induction h using nib_rows with
  | r0 | r1 | r2 | r3 | r4 | r5 | r6 | r7 | r9 | rA | rB =>
    cases hr
    exact congrArg (fun b => [_, b]) (hi_append_lo b1)
  | rC =>
    obtain ⟨rfl, rfl⟩ := row_eq_some hr
    rfl
  | rD => exact extRw_encode hr
  | rE | rF =>
    cases hr
    rfl
  | r8 => cases hr

/-! ### The whole map -/

/-- The first bytes of the byte instructions `reg, #data8`, whose last byte is not significant (30_encoding.md R124). -/
def data8Opcodes : List Byte := [0x07#8, 0x17#8, 0x27#8, 0x37#8, 0x47#8, 0x57#8, 0x67#8, 0x77#8, 0xE7#8]

/-- A byte whose low nibble is known. -/
theorem eq_hi_append {b : Byte} {x : Nib} (h : lo b = x) : b = hi b ++ x := (hi_append_of_lo h).symm

/-- What the opcode map answers is written as the bytes it was read from, but for a byte that is not significant. -/
theorem rowOf_encode {b0 : Byte} (hr : rowOf b0 b1 b2 b3 = some i) :
    (lengthOf b0 = 2 ∧ encode i = [b0, b1]) ∨
      (lengthOf b0 = 4 ∧ (encode i = [b0, b1, b2, b3] ∨ b0 ∈ data8Opcodes ∧ encode i = [b0, b1, b2, 0x00#8])) := by
  obtain ⟨column, hc⟩ : ∃ x, lo b0 = x := ⟨_, rfl⟩
  rw [eq_hi_append hc] at hr ⊢
  rw [lengthOf_append]
  unfold rowOf at hr
  rw [lo_append, hi_append] at hr
  induction column using nib_rows with
  | r0 => exact .inl ⟨rfl, column0_encode hr⟩
  | r1 => exact .inl ⟨rfl, column1_encode hr⟩
  | r2 => exact .inr ⟨rfl, .inl (column2_encode hr)⟩
  | r3 => exact .inr ⟨rfl, .inl (column3_encode hr)⟩
  | r4 => exact .inr ⟨rfl, .inl (column4_encode hr)⟩
  | r5 => exact .inr ⟨rfl, .inl (column5_encode hr)⟩
  | r6 => exact .inr ⟨rfl, .inl (column6_encode hr)⟩
  | r7 => exact .inr ⟨rfl, column7_encode hr⟩
  | r8 => exact .inl ⟨rfl, column8_encode hr⟩
  | r9 => exact .inl ⟨rfl, column9_encode hr⟩
  | rA => exact .inr ⟨rfl, .inl (columnA_encode hr)⟩
  | rB => exact .inl ⟨rfl, columnB_encode hr⟩
  | rC => exact .inl ⟨rfl, columnC_encode hr⟩
  | rD =>
    cases hr
    exact .inl ⟨rfl, by rw [encode, hi_append]⟩
  | rE =>
    cases hr
    exact .inl ⟨rfl, by rw [encode, hi_append]⟩
  | rF =>
    cases hr
    exact .inl ⟨rfl, by rw [encode, hi_append]⟩

end Sys2Proof
end

section
/-! PROOFS of the statements about 30_encoding.md: the undefined first bytes (R150, R151) and the round trip from bytes. -/

namespace Sys2Proof

/-! ### What the decoder answers -/

/-- All that four bytes can decode to. -/
theorem decodeBytes_ok {v : Variant} {b0 b1 b2 b3 : Byte} {i : Instr} (h : decodeBytes v b0 b1 b2 b3 = .ok i) :
    undefinedFirst v b0 = false ∧ rowOf b0 b1 b2 b3 = some i := by
  unfold decodeBytes at h
  split at h
  · cases h
  next defined =>
    split at h
    next row =>
      cases h
      exact ⟨by simpa using defined, row⟩
    next => cases h

/-- Four bytes are an undefined opcode by their first alone. -/
theorem decodeBytes_undefined {v : Variant} {b0 b1 b2 b3 : Byte} (h : undefinedFirst v b0 = false) :
    decodeBytes v b0 b1 b2 b3 ≠ .error .undefinedOpcode := by
  rw [decodeBytes, h, if_neg Bool.false_ne_true]
  split
  next => simp
  next => split <;> simp

theorem except_map_ok {α β ε : Type} {r : Except ε α} {f : α → β} {b : β} (h : r.map f = .ok b) :
    ∃ a, r = .ok a ∧ f a = b := by
  cases r with
  | ok a => exact ⟨a, rfl, by simpa [Except.map] using h⟩
  | error e => cases h

theorem except_map_error {α β ε : Type} {r : Except ε α} {f : α → β} {e : ε} (h : r.map f = .error e) : r = .error e := by
  cases r with
  | ok a => cases h
  | error e' => cases h; rfl

/-- A list of bytes is an undefined opcode by its first byte alone. -/
theorem decode_undefined_iff (v : Variant) (b0 b1 : Byte) (rest : List Byte) :
    decode v (b0 :: b1 :: rest) = .error .undefinedOpcode ↔ undefinedFirst v b0 = true := by
  constructor
  · intro h
    by_contra defined
    rw [Bool.not_eq_true] at defined
    simp only [decode, defined, Bool.false_eq_true, if_false] at h
    split at h
    next => exact decodeBytes_undefined defined (except_map_error h)
    next =>
      split at h
      next => exact decodeBytes_undefined defined (except_map_error h)
      next => cases h
  · intro h
    simp only [decode, h, if_true]

/-- All that a list of bytes can decode to. -/
theorem decode_ok {v : Variant} {bytes rest : List Byte} {i : Instr} (h : decode v bytes = .ok (i, rest)) :
    ∃ b0 b1, undefinedFirst v b0 = false ∧
      ((lengthOf b0 = 2 ∧ bytes = b0 :: b1 :: rest ∧ rowOf b0 b1 0 0 = some i) ∨
        (lengthOf b0 ≠ 2 ∧ ∃ b2 b3, bytes = b0 :: b1 :: b2 :: b3 :: rest ∧ rowOf b0 b1 b2 b3 = some i)) := by
  unfold decode at h
  split at h
  next b0 b1 tail =>
    split at h
    · cases h
    · split at h
      next short =>
        obtain ⟨j, hj, he⟩ := except_map_ok h
        cases he
        obtain ⟨defined, row⟩ := decodeBytes_ok hj
        exact ⟨b0, b1, defined, .inl ⟨short, rfl, row⟩⟩
      next long =>
        split at h
        next b2 b3 tail' =>
          obtain ⟨j, hj, he⟩ := except_map_ok h
          cases he
          obtain ⟨defined, row⟩ := decodeBytes_ok hj
          exact ⟨b0, b1, defined, .inr ⟨long, b2, b3, rfl, row⟩⟩
        next => cases h
  next => cases h

/-! ### Starters and their first bytes -/

/-- A starter of a sequence is written with one of the three first bytes of R151. -/
theorem starter_encode {i : Instr} (h : i.isStarter = true) : ∃ b0 tail, encode i = b0 :: tail ∧ b0 ∈ extOpcodes := by
  cases i with
  | atomic _ | extr _ => exact ⟨0xD1, _, rfl, by decide⟩
  | extpRw _ _ | extprRw _ _ | extsRw _ _ | extsrRw _ _ => exact ⟨0xDC, _, rfl, by decide⟩
  | extpPag _ _ | extprPag _ _ | extsSeg _ _ | extsrSeg _ _ => exact ⟨0xD7, _, rfl, by decide⟩
  | _ => cases h

/-- What is written with a first byte that the device knows is well formed on it. -/
theorem wellFormed_of_encode {v : Variant} {i : Instr} {b0 : Byte} {tail : List Byte} (he : encode i = b0 :: tail)
    (hd : undefinedFirst v b0 = false) : WellFormed v i := by
  cases hs : i.isStarter with
  | false => simp [WellFormed, Instr.wellFormed, hs]
  | true =>
    obtain ⟨b0', tail', he', hext⟩ := starter_encode hs
    rw [he] at he'
    cases he'
    cases hv : v.hasExt with
    | true => simp [WellFormed, Instr.wellFormed, hv]
    | false => simp [undefinedFirst, hv, hext] at hd

/-- Bytes that decode are the instruction's encoding, but for the byte that is not significant. -/
theorem encode_of_decode {v : Variant} {bytes rest : List Byte} {i : Instr} (h : decode v bytes = .ok (i, rest)) :
    WellFormed v i ∧ (bytes = encode i ++ rest ∨
      ∃ b0 reg data x, b0 ∈ data8Opcodes ∧ encode i = [b0, reg, data, 0x00#8] ∧
        bytes = b0 :: reg :: data :: x :: rest) := by
  obtain ⟨b0, b1, defined, ⟨short, rfl, row⟩ | ⟨long, b2, b3, rfl, row⟩⟩ := decode_ok h
  · rcases rowOf_encode row with ⟨-, he⟩ | ⟨four, -⟩
    · exact ⟨wellFormed_of_encode he defined, .inl (by rw [he]; rfl)⟩
    · omega
  · rcases rowOf_encode row with ⟨two, -⟩ | ⟨-, he | ⟨hmem, he⟩⟩
    · exact absurd two long
    · exact ⟨wellFormed_of_encode he defined, .inl (by rw [he]; rfl)⟩
    · exact ⟨wellFormed_of_encode he defined, .inr ⟨b0, b1, b2, b3, hmem, he, rfl⟩⟩

theorem wellFormed_of_decode {v : Variant} {bytes rest : List Byte} {i : Instr} (h : decode v bytes = .ok (i, rest)) :
    WellFormed v i := (encode_of_decode h).1

/-! ### Every defined first byte has an instruction -/

/-- Three bytes that complete a first byte to an instruction, where one does: FnH for the rows that fix a high nibble,
RETI's own byte, the complement and the repetitions for a protected instruction (30_encoding.md R153), else zeros. -/
def completion (b0 : Byte) : Byte × Byte × Byte :=
  if b0 ∈ protectedOpcodes then (~~~b0, b0, b0)
  else if b0 = 0xFB then (0x88, 0, 0)
  else if (lo b0 = 2 ∨ lo b0 = 6) ∧ 0x8 ≤ (hi b0).toNat ∧ (hi b0).toNat ≤ 0xB then (0xF0, 0, 0)
  else (0, 0, 0)

/-- Every first byte that the device knows is completed to an instruction. -/
theorem completion_decodes (v : Variant) : ∀ b0 : Byte, undefinedFirst v b0 = true ∨
    (decode v [b0, (completion b0).1, (completion b0).2.1, (completion b0).2.2]).isOk = true := by
  cases v <;> decide

/-- The undefined first bytes, listed (30_encoding.md R150, R151). -/
theorem undefinedFirst_iff (v : Variant) (b0 : Byte) :
    undefinedFirst v b0 = true ↔ b0 ∈ undefinedOpcodes ∨ (v = .sab8xc166 ∧ b0 ∈ extOpcodes) := by
  cases v <;> simp [undefinedFirst, Variant.hasExt]

end Sys2Proof

namespace Sys2Proof.Proofs

/-- Settles O55: the decoder's test of the first byte is the list, every byte that passes it has a completion, and the
opcode map is undone by the encoder column by column. -/
theorem undefinedOpcodesAreExactlyThese : Obligations.UndefinedOpcodesAreExactlyThese := by
  unfold Obligations.UndefinedOpcodesAreExactlyThese
  refine ⟨fun v b0 b1 rest => ?_, fun v b0 defined => ?_, fun v bytes i rest h => encode_of_decode h⟩
  · exact (decode_undefined_iff v b0 b1 rest).trans (undefinedFirst_iff v b0)
  · have ok := (completion_decodes v b0).resolve_left (by simp [defined])
    refine ⟨(completion b0).1, (completion b0).2.1, (completion b0).2.2, ?_⟩
    cases hd : decode v [b0, (completion b0).1, (completion b0).2.1, (completion b0).2.2] with
    | ok p => exact ⟨p.1, p.2, rfl⟩
    | error e =>
      rw [hd] at ok
      cases ok

end Sys2Proof.Proofs
end

section
/-! PROOFS of the statements about the whole machine: what every operation keeps. An operation is followed access by access:
`Stays s r P` says that what it answers satisfies `P`, and that a trap is raised in a state that still keeps what `s` had. -/

namespace Sys2Proof.Machine

/-! ### PSW's reserved bits -/

/-- The bits that the mask of PSW's storage lets through (10_state.md R33). -/
theorem getLsbD_pswStored (p : Word) (i : Nat) :
    (pswStored p).getLsbD i = (p.getLsbD i && (0xFC7F : Word).getLsbD i) := BitVec.getLsbD_and

/-- PSW is as it is stored exactly where its bits 9..7 are 0. -/
theorem pswStored_eq_iff (p : Word) :
    pswStored p = p ↔ p.getLsbD 7 = false ∧ p.getLsbD 8 = false ∧ p.getLsbD 9 = false := by
  have mask : ∀ i : Fin 16, (0xFC7F : Word).getLsbD i = false ↔ i.val = 7 ∨ i.val = 8 ∨ i.val = 9 := by decide
  have masked : ∀ i, (0xFC7F : Word).getLsbD i = false → pswStored p = p → p.getLsbD i = false := by
    intro i hi h
    rw [← h, getLsbD_pswStored, hi, Bool.and_false]
  constructor
  · exact fun h => ⟨masked 7 (by decide) h, masked 8 (by decide) h, masked 9 (by decide) h⟩
  · rintro ⟨h7, h8, h9⟩
    apply BitVec.eq_of_getLsbD_eq
    intro i hi
    rw [getLsbD_pswStored]
    cases hm : (0xFC7F : Word).getLsbD i with
    | true => rw [Bool.and_true]
    | false => rcases (mask ⟨i, hi⟩).1 hm with rfl | rfl | rfl <;> simp only [h7, h8, h9, Bool.false_and]

theorem pswStored_pswWithFlags {p : Word} (h : pswStored p = p) (f : Flags) :
    pswStored (pswWithFlags p f) = pswWithFlags p f := by
  rw [pswStored_eq_iff] at h ⊢
  obtain ⟨h7, h8, h9⟩ := h
  exact ⟨(getLsbD_pswWithFlags p f 7 (by decide)).trans h7, (getLsbD_pswWithFlags p f 8 (by decide)).trans h8,
    (getLsbD_pswWithFlags p f 9 (by decide)).trans h9⟩

theorem pswStored_pswWithLevel {p : Word} (h : pswStored p = p) (level : Nib) :
    pswStored (pswWithLevel p level) = pswWithLevel p level := by
  rw [pswStored_eq_iff] at h ⊢
  obtain ⟨h7, h8, h9⟩ := h
  exact ⟨(getLsbD_pswWithLevel p level 7).trans h7, (getLsbD_pswWithLevel p level 8).trans h8,
    (getLsbD_pswWithLevel p level 9).trans h9⟩

/-! ### Segment numbers -/

theorem toNat_segOf (v : Variant) (seg : Byte) : (segOf v seg).toNat = seg.toNat % 2 ^ segBits v := by
  have := seg.isLt
  cases v <;> simp only [segOf, segBits, BitVec.toNat_ofNat] <;> omega

/-- Cutting a segment number to the device's width twice is cutting it once. -/
@[simp] theorem segOf_segOf (v : Variant) (seg : Byte) : segOf v (segOf v seg) = segOf v seg := by
  apply BitVec.eq_of_toNat_eq
  rw [toNat_segOf, toNat_segOf, Nat.mod_mod]

@[simp] theorem segOf_zero (v : Variant) : segOf v 0 = 0 := by cases v <;> rfl

/-! ### What is kept from one state to another -/

/-- The configuration and the queue of requests are as they were, and the invariant holds if it held. -/
structure Keeps (s t : State) : Prop where
  cfg : t.cfg = s.cfg
  pending : t.pending = s.pending
  inv : StateInv s → StateInv t

/-- The fields that the invariant and `Keeps` speak of. -/
def State.kept (s : State) : Memory × Nat × SfrRange × DataOverride × Word × Byte × Word × Config × List Request :=
  (s.mem, s.seqCount, s.extSfr, s.extData, s.cp, s.csp, s.psw, s.cfg, s.pending)

theorem StateInv.congr {s t : State} (h : StateInv s) (e : t.kept = s.kept) : StateInv t := by
  simp only [State.kept, Prod.mk.injEq] at e
  obtain ⟨hmem, hcount, hsfr, hdata, hcp, hcsp, hpsw, hcfg, -⟩ := e
  exact ⟨by rw [hmem, hcfg]; exact h.mem, by rw [hcount]; exact h.count, by rw [hcount, hsfr, hdata]; exact h.standard,
    by rw [hcfg, hcount]; exact h.device, by rw [hcp]; exact h.cp, by rw [hcfg, hcsp]; exact h.csp,
    by rw [hpsw]; exact h.psw, by rw [hcfg]; exact h.config⟩

theorem Keeps.refl (s : State) : Keeps s s := ⟨rfl, rfl, id⟩

/-- An update of other fields keeps what was kept. -/
theorem Keeps.congr {s t u : State} (h : Keeps s t) (e : u.kept = t.kept) : Keeps s u where
  cfg := (congrArg (·.2.2.2.2.2.2.2.1) e).trans h.cfg
  pending := (congrArg (·.2.2.2.2.2.2.2.2) e).trans h.pending
  inv hs := (h.inv hs).congr e

/-- An update that leaves configuration and queue alone and keeps the invariant. -/
theorem Keeps.update {s t u : State} (h : Keeps s t) (hcfg : u.cfg = t.cfg) (hpending : u.pending = t.pending)
    (hinv : StateInv t → StateInv u) : Keeps s u :=
  ⟨hcfg.trans h.cfg, hpending.trans h.pending, fun hs => hinv (h.inv hs)⟩

section Updates

variable {s t : State} (h : Keeps s t)
include h

theorem Keeps.goto (target : Word) : Keeps s (t.goto target) := h.congr rfl

theorem Keeps.markWord (pa : Nat) : Keeps s (t.markWord pa) := h.congr rfl

theorem Keeps.drawWord : Keeps s t.drawWord.2 := h.congr rfl

theorem Keeps.drawByte : Keeps s t.drawByte.2 := h.congr rfl

theorem Keeps.drawBit : Keeps s t.drawBit.2 := h.congr rfl

theorem Keeps.setFlags (f : Flags) : Keeps s (t.setFlags f) :=
  h.update rfl rfl fun i => { i with psw := pswStored_pswWithFlags i.psw f }

theorem Keeps.setFlagsFor (pa : Nat) (f : Flags) : Keeps s (t.setFlagsFor pa f) := by
  unfold State.setFlagsFor
  split
  · exact h
  · exact h.setFlags f

theorem Keeps.storeByte (pa : Nat) (v : Byte) : Keeps s (t.storeByte pa v) :=
  h.update rfl rfl fun i => { i with mem := Memory.wf_write i.mem pa v }

theorem Keeps.storeWord (pa : Nat) (v : Word) : Keeps s (t.storeWord pa v) :=
  h.update rfl rfl fun i => { i with mem := Memory.wf_writeWord i.mem pa v }

theorem Keeps.storeDevice (pa : Nat) (v : Word) : Keeps s (t.storeDevice pa v) := h.storeWord pa _

/-- A write to CSP leaves the bits of a segment number (10_state.md R30). -/
theorem Keeps.setCsp (seg : Byte) : Keeps s { t with csp := segOf t.cfg.variant seg } :=
  h.update rfl rfl fun i => { i with csp := segOf_segOf _ _ }

/-- A write to PSW leaves its reserved bits 0 (10_state.md R33). -/
theorem Keeps.setPsw (v : Word) : Keeps s { t with psw := pswOf t.cfg v } :=
  h.update rfl rfl fun i => { i with psw := pswStored_pswOf _ _ }

/-- A register of its own takes any word, CP a legal one (10_state.md R39). -/
theorem Keeps.writeSfr {r : CpuSfr} {v : Word} (hcp : r = .cp → cpLegal v = true) : Keeps s (t.writeSfr r v) := by
  cases r with
  | cp => exact h.update rfl rfl fun i => { i with cp := hcp rfl }
  | csp => exact h.setCsp _
  | psw => exact h.setPsw v
  | _ => exact h.congr rfl

end Updates

/-- An address that takes a write and names CP takes a legal value only. -/
theorem cpLegal_of_takesWrite {c : Config} {pa : Nat} {r : CpuSfr} {v : Word} (hp : place c pa = .sfr r)
    (h : takesWrite c pa v = true) : r = .cp → cpLegal v = true := by
  rintro rfl
  simpa [takesWrite, hp] using h

theorem Keeps.putWord {s t : State} (h : Keeps s t) {pa : Nat} {v : Word} (hw : canWriteW t pa v = true) :
    Keeps s (t.putWord pa v) := by
  have takes : takesWrite t.cfg pa v = true := by
    simp only [canWriteW, Bool.and_eq_true] at hw
    exact hw.2.1
  unfold State.putWord
  split
  next r hp => exact (h.writeSfr (cpLegal_of_takesWrite hp takes)).markWord pa
  next => exact h.storeDevice pa v
  next => exact h.storeWord pa v

theorem Keeps.putByte {s t : State} (h : Keeps s t) {pa : Nat} {v : Byte} (hw : canWriteB t pa v = true) :
    Keeps s (t.putByte pa v) := by
  unfold State.putByte
  split
  next r hp => exact (h.writeSfr (cpLegal_of_takesWrite hp hw)).markWord _
  next => exact h.storeWord _ _
  next => exact h.storeDevice _ _
  next => exact h.storeByte pa v

/-! ### Operations that can stop -/

/-- Every answer of the operation satisfies `P`, and a trap is raised in a state that keeps what `s` had. -/
def Stays {α : Type} (s : State) (r : Res α) (P : α → Prop) : Prop :=
  match r with
  | .ok a => P a
  | .error (.trap _ u) => Keeps s u
  | .error (.refuse _) => True

/-- Nothing is asked of what the operation answers: a read. -/
abbrev Reads {α : Type} (s : State) (r : Res α) : Prop := Stays s r fun _ => True

/-- The operation answers a state. -/
abbrev StaysState (s : State) (r : Res State) : Prop := Stays s r (Keeps s)

/-- The operation answers a value with a state. -/
abbrev StaysPair {α : Type} (s : State) (r : Res (α × State)) : Prop := Stays s r fun p => Keeps s p.2

theorem stays_ok {α : Type} {s : State} {a : α} {P : α → Prop} (h : P a) : Stays s (.ok a) P := h

theorem Stays.bind {α β : Type} {s : State} {r : Res α} {f : α → Res β} {P : α → Prop} {Q : β → Prop} (h : Stays s r P)
    (hf : ∀ a, P a → Stays s (f a) Q) : Stays s (r >>= f) Q := by
  cases r with
  | ok a => exact hf a h
  | error e => cases e <;> exact h

theorem Stays.map {α β : Type} {s : State} {r : Res α} {f : α → β} {P : α → Prop} {Q : β → Prop} (h : Stays s r P)
    (hf : ∀ a, P a → Q (f a)) : Stays s (r.map f) Q := by
  cases r with
  | ok a => exact hf a h
  | error e => cases e <;> exact h

/-- An operation that is only refused, or whose traps keep what `s` had. -/
theorem stays_unlessStopped {α : Type} {s : State} {why : Option Stop} {a : α} {P : α → Prop} (ha : why = none → P a)
    (ht : ∀ trap u, why = some (.trap trap u) → Keeps s u) : Stays s (unlessStopped why a) P := by
  cases why with
  | none => exact ha rfl
  | some e =>
    cases e with
    | trap trap u => exact ht trap u rfl
    | refuse r => trivial

theorem readStop_ne_trap (t : State) (pa : Nat) (trap : Trap) (u : State) : t.readStop pa ≠ some (.trap trap u) := by
  unfold State.readStop
  split <;> simp

theorem writeStop_ne_trap (t : State) (pa : Nat) (v : Word) (trap : Trap) (u : State) :
    t.writeStop pa v ≠ some (.trap trap u) := by
  unfold State.writeStop
  split <;> try split
  all_goals simp

/-- A word access traps in the state that it was made in. -/
theorem oddStop_trap {t u : State} {pa : Nat} {trap : Trap} (h : t.oddStop pa = some (.trap trap u)) : u = t := by
  unfold State.oddStop at h
  split at h
  · cases h
  · cases h; rfl

/-- Of the reasons that stop a word access, only the odd address is a trap. -/
theorem wordStop_trap {t u : State} {pa : Nat} {trap : Trap} {a b : Option Stop} (ha : ∀ u, a ≠ some (.trap trap u))
    (hb : ∀ u, b ≠ some (.trap trap u)) (h : ((t.oddStop pa).or a).or b = some (.trap trap u)) : u = t := by
  rcases Option.or_eq_some_iff.1 h with h | ⟨-, h⟩
  · rcases Option.or_eq_some_iff.1 h with h | ⟨-, h⟩
    · exact oddStop_trap h
    · exact absurd h (ha u)
  · exact absurd h (hb u)

section Accesses

variable {s t : State} (h : Keeps s t)
include h

theorem reads_memReadW (pa : Nat) : Reads s (memReadW t pa) :=
  stays_unlessStopped (fun _ => trivial) fun trap _ ht =>
    wordStop_trap (readStop_ne_trap t pa trap) (readStop_ne_trap t (pa + 1) trap) ht ▸ h

omit h in
theorem reads_memReadB (pa : Nat) : Reads s (memReadB t pa) :=
  stays_unlessStopped (fun _ => trivial) fun trap u ht => absurd ht (readStop_ne_trap t pa trap u)

theorem stays_memWriteW (pa : Nat) (v : Word) : StaysState s (memWriteW t pa v) :=
  stays_unlessStopped (fun hn => h.putWord (canWriteW_iff.2 hn)) fun trap _ ht =>
    wordStop_trap (writeStop_ne_trap t pa v trap) (writeStop_ne_trap t (pa + 1) v trap) ht ▸ h

theorem stays_memWriteB (pa : Nat) (v : Byte) : StaysState s (memWriteB t pa v) :=
  stays_unlessStopped (fun hn => h.putByte (writeStop_eq_none.1 hn)) fun trap u ht =>
    absurd ht (writeStop_ne_trap t pa _ trap u)

theorem stays_memWriteWhenW (wanted : Bool) (pa : Nat) (v : Word) : StaysState s (memWriteWhenW t wanted pa v) := by
  cases wanted with
  | true => rw [memWriteWhenW_true]; exact stays_memWriteW h pa v
  | false => rw [memWriteWhenW_false]; exact h

theorem stays_finishW (pa : Nat) (r : Flagged 16) : StaysState s (finishW t pa r) :=
  (stays_memWriteW h pa r.val).map fun _ hu => hu.setFlagsFor pa r.flags

theorem stays_finishB (pa : Nat) (r : Flagged 8) : StaysState s (finishB t pa r) :=
  (stays_memWriteB h pa r.val).map fun _ hu => hu.setFlagsFor pa r.flags

theorem stays_push (v : Word) : StaysState s (push t v) := 
  stays_memWriteW (t := { t with sp := t.sp - 2 }) (h.congr rfl) _ v

theorem stays_pop : StaysPair s (pop t) := (reads_memReadW h _).map fun _ _ => h.congr rfl

end Accesses

end Sys2Proof.Machine
end

section
/-! PROOFS of the statements about the whole machine: what every operand form, template and instruction keeps. -/

namespace Sys2Proof.Machine

/-! ### Addresses: refused or answered, never trapped -/

theorem reads_inBank (s t : State) (pa : Nat) : Reads s (inBank t pa) := by
  unfold inBank
  split <;> trivial

theorem reads_rwAddress (s t : State) (n : Nib) : Reads s (rwAddress t n) := reads_inBank s t _

theorem reads_rbAddress (s t : State) (k : Nib) : Reads s (rbAddress t k) := reads_inBank s t _

theorem reads_regAddressW (s t : State) (reg : Byte) : Reads s (regAddressW t reg) := by
  unfold regAddressW
  split
  · trivial
  · exact reads_rwAddress s t _

theorem reads_regAddressB (s t : State) (reg : Byte) : Reads s (regAddressB t reg) := by
  unfold regAddressB
  split
  · trivial
  · exact reads_rbAddress s t _

theorem reads_memAddress (s t : State) (mem : Word) : Reads s (memAddress t mem) := trivial

theorem reads_bitoffAddress (s t : State) (b : Byte) : Reads s (bitoffAddress t b) := by
  unfold bitoffAddress
  split
  · trivial
  · split
    · trivial
    · exact reads_rwAddress s t _

section Operands

variable {s t : State} (h : Keeps s t)
include h

/-! ### Reading operands -/

theorem reads_readW {address : Res Nat} (ha : Reads s address) : Reads s (readW t address) :=
  ha.bind fun pa _ => reads_memReadW h pa

omit h in
theorem reads_readB {address : Res Nat} (ha : Reads s address) : Reads s (readB t address) :=
  ha.bind fun pa _ => reads_memReadB pa

theorem reads_readRw (n : Nib) : Reads s (readRw t n) := reads_readW h (reads_rwAddress s t n)

omit h in
theorem reads_readRb (k : Nib) : Reads s (readRb t k) := reads_readB (reads_rbAddress s t k)

theorem stays_fromRw (n : Nib) : StaysPair s (fromRw t n) := (reads_readRw h n).map fun _ _ => h

theorem stays_fromRb (k : Nib) : StaysPair s (fromRb t k) := (reads_readRb k).map fun _ _ => h

theorem stays_fromRegW (reg : Byte) : StaysPair s (fromRegW t reg) :=
  (reads_readW h (reads_regAddressW s t reg)).map fun _ _ => h

theorem stays_fromRegB (reg : Byte) : StaysPair s (fromRegB t reg) :=
  (reads_readB (reads_regAddressB s t reg)).map fun _ _ => h

theorem stays_fromMemW (mem : Word) : StaysPair s (fromMemW t mem) := (reads_memReadW h _).map fun _ _ => h

theorem stays_fromMemB (mem : Word) : StaysPair s (fromMemB t mem) := (reads_memReadB _).map fun _ _ => h

theorem stays_fromConst {k : Nat} (w : Nat) (c : BitVec k) : StaysPair s (fromConst w t c) := h

theorem stays_readThroughW (f : Nib) (pa : Nat) : StaysPair s (readThroughW t f pa) :=
  (reads_memReadW h pa).map fun v _ => by split <;> exact h.congr rfl

theorem stays_readThroughB (f : Nib) (pa : Nat) : StaysPair s (readThroughB t f pa) :=
  (reads_memReadB pa).map fun v _ => by split <;> exact h.congr rfl

theorem stays_readIndW (f : Nib) : StaysPair s (readIndW t f) :=
  (reads_readRw h f).bind fun _ _ => stays_readThroughW h f _

theorem stays_readIndB (f : Nib) : StaysPair s (readIndB t f) :=
  (reads_readRw h f).bind fun _ _ => stays_readThroughB h f _

theorem stays_readDispW (f : Nib) (disp : Word) : StaysPair s (readDispW t f disp) :=
  (reads_readRw h f).bind fun _ _ => stays_readThroughW h f _

theorem stays_readDispB (f : Nib) (disp : Word) : StaysPair s (readDispB t f disp) :=
  (reads_readRw h f).bind fun _ _ => stays_readThroughB h f _

theorem stays_readIndIncW (f : Nib) : StaysPair s (readIndIncW t f) :=
  (reads_rwAddress s t f).bind fun pointer _ => (reads_memReadW h pointer).bind fun la _ =>
    (stays_readThroughW h f (t.physData la)).bind fun _ hu =>
      (stays_memWriteW hu pointer (la + 2)).bind fun _ hw => hw

theorem stays_readIndIncB (f : Nib) : StaysPair s (readIndIncB t f) :=
  (reads_rwAddress s t f).bind fun pointer _ => (reads_memReadW h pointer).bind fun la _ =>
    (stays_readThroughB h f (t.physData la)).bind fun _ hu =>
      (stays_memWriteW hu pointer (la + 1)).bind fun _ hw => hw

/-! ### Writing results -/

theorem Keeps.storedThroughW (own : Bool) (v : Word) : Keeps s (storedThroughW t own v).2 := by
  unfold Machine.storedThroughW
  split
  · exact h.drawWord
  · exact h

theorem Keeps.storedThroughB (own : Bool) (v : Byte) : Keeps s (storedThroughB t own v).2 := by
  unfold Machine.storedThroughB
  split
  · exact h.drawByte
  · exact h

theorem Keeps.afterIncrement (unclear : Bool) (la step : Word) : Keeps s (afterIncrement t unclear la step).2 := by
  unfold Machine.afterIncrement
  split
  · exact h.drawWord
  · exact h

theorem stays_finishThroughW (own : Bool) (pa : Nat) (r : Flagged 16) : StaysState s (finishThroughW t own pa r) :=
  stays_finishW (h.storedThroughW own r.val) pa _

theorem stays_finishThroughB (own : Bool) (pa : Nat) (r : Flagged 8) : StaysState s (finishThroughB t own pa r) :=
  stays_finishB (h.storedThroughB own r.val) pa _

theorem stays_finishIndW (f : Nib) (r : Flagged 16) : StaysState s (finishIndW t f r) :=
  (reads_readRw h f).bind fun _ _ => stays_finishThroughW h _ _ r

theorem stays_finishIndB (f : Nib) (r : Flagged 8) : StaysState s (finishIndB t f r) :=
  (reads_readRw h f).bind fun _ _ => stays_finishThroughB h _ _ r

theorem stays_finishDispW (f : Nib) (disp : Word) (r : Flagged 16) : StaysState s (finishDispW t f disp r) :=
  (reads_readRw h f).bind fun _ _ => stays_finishThroughW h _ _ r

theorem stays_finishDispB (f : Nib) (disp : Word) (r : Flagged 8) : StaysState s (finishDispB t f disp r) :=
  (reads_readRw h f).bind fun _ _ => stays_finishThroughB h _ _ r

theorem stays_finishPreDecW (f : Nib) (r : Flagged 16) : StaysState s (finishPreDecW t f r) :=
  (reads_rwAddress s t f).bind fun pointer _ => (reads_memReadW h pointer).bind fun p _ =>
    (stays_memWriteW h pointer (p - 2)).bind fun _ hu => stays_finishThroughW hu _ _ r

theorem stays_finishPreDecB (f : Nib) (r : Flagged 8) : StaysState s (finishPreDecB t f r) :=
  (reads_rwAddress s t f).bind fun pointer _ => (reads_memReadW h pointer).bind fun p _ =>
    (stays_memWriteW h pointer (p - 1)).bind fun _ hu => stays_finishThroughB hu _ _ r

theorem stays_finishIndIncW (f : Nib) (unclear : Bool) (r : Flagged 16) :
    StaysState s (finishIndIncW t f unclear r) :=
  (reads_rwAddress s t f).bind fun pointer _ => (reads_memReadW h pointer).bind fun la _ =>
    (stays_memWriteW h (t.physData la) r.val).bind fun _ hu =>
      (stays_memWriteW (hu.afterIncrement _ la 2) pointer _).bind fun _ hw => hw.setFlagsFor _ _

theorem stays_finishIndIncB (f : Nib) (unclear : Bool) (r : Flagged 8) :
    StaysState s (finishIndIncB t f unclear r) :=
  (reads_rwAddress s t f).bind fun pointer _ => (reads_memReadW h pointer).bind fun la _ =>
    (stays_memWriteB h (t.physData la) r.val).bind fun _ hu =>
      (stays_memWriteW (hu.afterIncrement _ la 1) pointer _).bind fun _ hw => hw.setFlagsFor _ _

theorem stays_toW {address : State → Res Nat} (ha : ∀ u, Reads s (address u)) (r : Flagged 16) :
    StaysState s (toW address t r) := (ha t).bind fun pa _ => stays_finishW h pa r

theorem stays_toB {address : State → Res Nat} (ha : ∀ u, Reads s (address u)) (r : Flagged 8) :
    StaysState s (toB address t r) := (ha t).bind fun pa _ => stays_finishB h pa r

end Operands

/-! ### Templates over a source and an address -/

section Templates

variable {s : State} {address : State → Res Nat}

theorem stays_aluW {source : Res (Word × State)} (hs : StaysPair s source) (ha : ∀ u, Reads s (address u)) (op : AluOp)
    (before : Flags) : StaysState s (aluW op before source address) :=
  hs.bind fun p hp => (ha p.2).bind fun pa _ => (reads_memReadW hp pa).bind fun _ _ => stays_finishW hp pa _

theorem stays_aluB {source : Res (Byte × State)} (hs : StaysPair s source) (ha : ∀ u, Reads s (address u)) (op : AluOp)
    (before : Flags) : StaysState s (aluB op before source address) :=
  hs.bind fun p hp => (ha p.2).bind fun pa _ => (reads_memReadB pa).bind fun _ _ => stays_finishB hp pa _

theorem stays_compareW {source : Res (Word × State)} (hs : StaysPair s source) (ha : ∀ u, Reads s (address u)) :
    StaysState s (compareW source address) :=
  hs.bind fun p hp => (reads_readW hp (ha p.2)).bind fun _ _ => hp.setFlags _

theorem stays_compareB {source : Res (Byte × State)} (hs : StaysPair s source) (ha : ∀ u, Reads s (address u)) :
    StaysState s (compareB source address) :=
  hs.bind fun p hp => (reads_readB (ha p.2)).bind fun _ _ => hp.setFlags _

theorem stays_moveW {source : Res (Word × State)} {put : State → Flagged 16 → Res State} (hs : StaysPair s source)
    (hput : ∀ u r, Keeps s u → StaysState s (put u r)) : StaysState s (moveW source put) :=
  hs.bind fun p hp => hput p.2 _ hp

theorem stays_moveB {source : Res (Byte × State)} {put : State → Flagged 8 → Res State} (hs : StaysPair s source)
    (hput : ∀ u r, Keeps s u → StaysState s (put u r)) : StaysState s (moveB source put) :=
  hs.bind fun p hp => hput p.2 _ hp

theorem stays_moveExtended {source : Res (Byte × State)} (hs : StaysPair s source) (ha : ∀ u, Reads s (address u))
    (extend : Byte → Word) (flags : Flags → Byte → Flags) : StaysState s (moveExtended extend flags source address) :=
  hs.bind fun _ hp => stays_toW hp ha _

theorem stays_compareLoop {source : Res (Word × State)} (hs : StaysPair s source) (delta : Word) (n : Nib) :
    StaysState s (compareLoop delta source n) :=
  hs.bind fun p hp => (reads_rwAddress s p.2 n).bind fun pa _ => (reads_memReadW hp pa).bind fun _ _ =>
    stays_finishW hp pa _

theorem stays_shift {k : Nat} {source : Res (BitVec k × State)} (hs : StaysPair s source) (op : ShiftOp) (n : Nib) :
    StaysState s (shift op source n) :=
  hs.bind fun p hp => (reads_rwAddress s p.2 n).bind fun pa _ => (reads_memReadW hp pa).bind fun _ _ =>
    stays_finishW hp pa _

theorem stays_switchContext {source : Res (Word × State)} (hs : StaysPair s source) (reg : Byte) :
    StaysState s (switchContext s reg source) :=
  (reads_regAddressW s s reg).bind fun pa _ => (reads_memReadW (.refl s) pa).bind fun old _ => hs.bind fun _ hp =>
    (stays_push hp old).bind fun u hu => (reads_regAddressW s u reg).bind fun pa _ => stays_memWriteW hu pa _

/-! ### Templates of the whole instruction -/

theorem stays_aluRwIndInc (op : AluOp) (s : State) (n : Nib) (i : BitVec 2) : StaysState s (aluRwIndInc op s n i) := by
  unfold aluRwIndInc
  split
  · exact (stays_readIndIncW (.refl s) n).bind fun p hp => (reads_rwAddress s _ n).bind fun pa _ =>
      stays_finishW hp.drawWord.drawWord pa _
  · exact stays_aluW (stays_readIndIncW (.refl s) _) (fun u => reads_rwAddress s u n) op _

theorem stays_aluRbIndInc (op : AluOp) (s : State) (n : Nib) (i : BitVec 2) : StaysState s (aluRbIndInc op s n i) := by
  unfold aluRbIndInc
  split
  · exact (stays_readIndIncB (.refl s) _).bind fun p hp => (reads_rwAddress s _ _).bind fun pa _ =>
      stays_finishW hp.drawByte.drawWord pa _
  · exact stays_aluB (stays_readIndIncB (.refl s) _) (fun u => reads_rbAddress s u n) op _

theorem stays_compareRwIndInc (s : State) (n : Nib) (i : BitVec 2) : StaysState s (compareRwIndInc s n i) := by
  unfold compareRwIndInc
  split
  · exact (stays_readIndIncW (.refl s) n).bind fun p hp => hp.drawWord.setFlags _
  · exact stays_compareW (stays_readIndIncW (.refl s) _) (fun u => reads_rwAddress s u n)

theorem stays_compareRbIndInc (s : State) (n : Nib) (i : BitVec 2) : StaysState s (compareRbIndInc s n i) := by
  unfold compareRbIndInc
  split
  · exact (stays_readIndIncB (.refl s) _).bind fun p hp => hp.drawByte.setFlags _
  · exact stays_compareB (stays_readIndIncB (.refl s) _) (fun u => reads_rbAddress s u n)

theorem stays_unaryRw (f : Word → Flagged 16) (s : State) (n : Nib) : StaysState s (unaryRw f s n) :=
  (reads_rwAddress s s n).bind fun pa _ => (reads_memReadW (.refl s) pa).bind fun _ _ => stays_finishW (.refl s) pa _

theorem stays_unaryRb (f : Byte → Flagged 8) (s : State) (n : Nib) : StaysState s (unaryRb f s n) :=
  (reads_rbAddress s s n).bind fun pa _ => (reads_memReadB pa).bind fun _ _ => stays_finishB (.refl s) pa _

theorem stays_multiply (f : Word → Word → ProductFlagged) (s : State) (n m : Nib) : StaysState s (multiply f s n m) :=
  (reads_readRw (.refl s) n).bind fun a _ => (reads_readRw (.refl s) m).bind fun b _ =>
    Keeps.setFlags (t := { s with mdh := (f a b).val.extractLsb' 16 16, mdl := (f a b).val.extractLsb' 0 16 })
      ((Keeps.refl s).congr rfl) _

theorem Keeps.setMd {s t : State} (h : Keeps s t) (low high : Word) : Keeps s { t with mdl := low, mdh := high } :=
  h.congr rfl

theorem Keeps.finishDivision (s : State) (d : Option Division) : Keeps s (finishDivision s d) := by
  cases d with
  | some d => exact ((Keeps.refl s).setMd _ _).setFlags _
  | none => exact ((Keeps.refl s).drawWord.drawWord.drawBit.drawBit.setMd _ _).setFlags _

theorem stays_divide (f : State → Word → Option Division) (s : State) (n : Nib) : StaysState s (divide f s n) :=
  (reads_readRw (.refl s) n).bind fun _ _ => Keeps.finishDivision s _

theorem stays_updateBit (s : State) (b : Byte) (p : Nib) (f : Bool → Bool) (flags : Bool → Flags) :
    StaysState s (updateBit s b p f flags) :=
  (reads_bitoffAddress s s b).bind fun pa _ => (reads_memReadW (.refl s) pa).bind fun _ _ =>
    stays_finishW (.refl s) pa _

theorem reads_readBit (s : State) (b : Byte) (p : Nib) : Reads s (readBit s b p) :=
  (reads_readW (.refl s) (reads_bitoffAddress s s b)).map fun _ _ => trivial

theorem stays_combineBits (s : State) (dst : Byte) (dpos : Nib) (src : Byte) (spos : Nib) (f : Bool → Bool → Bool)
    (flags : Bool → Bool → Flags) : StaysState s (combineBits s dst dpos src spos f flags) :=
  (reads_readBit s src spos).bind fun _ _ => stays_updateBit s dst dpos _ _

theorem stays_compareBits (s : State) (dst : Byte) (dpos : Nib) (src : Byte) (spos : Nib) :
    StaysState s (compareBits s dst dpos src spos) :=
  (reads_readBit s src spos).bind fun _ _ => (reads_readBit s dst dpos).bind fun _ _ => (Keeps.refl s).setFlags _

theorem stays_updateField (s : State) (b : Byte) (f : Word → Word) : StaysState s (updateField s b f) :=
  (reads_bitoffAddress s s b).bind fun pa _ => (reads_memReadW (.refl s) pa).bind fun _ _ =>
    stays_finishW (.refl s) pa _

theorem stays_prioritize (s : State) (n m : Nib) : StaysState s (prioritize s n m) :=
  (reads_readRw (.refl s) m).bind fun _ _ => stays_toW (.refl s) (fun u => reads_rwAddress s u n) _

theorem stays_moveRwIndInc (s : State) (n m : Nib) : StaysState s (moveRwIndInc s n m) := by
  unfold moveRwIndInc
  split
  · exact (stays_readIndIncW (.refl s) m).bind fun p hp => stays_toW hp.drawWord (fun u => reads_rwAddress s u n) _
  · exact stays_moveW (stays_readIndIncW (.refl s) m) fun u r hu => stays_toW hu (fun u => reads_rwAddress s u n) r

theorem stays_moveRbIndInc (s : State) (n m : Nib) : StaysState s (moveRbIndInc s n m) := by
  unfold moveRbIndInc
  split
  · exact (stays_readIndIncB (.refl s) m).bind fun p hp => stays_toW hp.drawWord (fun u => reads_rwAddress s u m) _
  · exact stays_moveB (stays_readIndIncB (.refl s) m) fun u r hu => stays_toB hu (fun u => reads_rbAddress s u n) r

theorem stays_movePreDecRw (s : State) (m n : Nib) : StaysState s (movePreDecRw s m n) := by
  unfold movePreDecRw
  split
  · exact stays_moveW (stays_ok (Keeps.refl s).drawWord) fun u r hu => stays_finishPreDecW hu m r
  · exact stays_moveW (stays_fromRw (.refl s) n) fun u r hu => stays_finishPreDecW hu m r

theorem stays_movePreDecRb (s : State) (m n : Nib) : StaysState s (movePreDecRb s m n) := by
  unfold movePreDecRb
  split
  · exact stays_moveB (stays_ok (Keeps.refl s).drawByte) fun u r hu => stays_finishPreDecB hu m r
  · exact stays_moveB (stays_fromRb (.refl s) n) fun u r hu => stays_finishPreDecB hu m r

theorem stays_moveIndIncIndW (s : State) (n m : Nib) : StaysState s (moveIndIncIndW s n m) :=
  stays_moveW (stays_readIndW (.refl s) m) fun _ r hu => stays_finishIndIncW hu n _ r

theorem stays_moveIndIncIndB (s : State) (n m : Nib) : StaysState s (moveIndIncIndB s n m) :=
  stays_moveB (stays_readIndB (.refl s) m) fun _ r hu => stays_finishIndIncB hu n _ r

theorem stays_moveIndIndIncW (s : State) (n m : Nib) : StaysState s (moveIndIndIncW s n m) := by
  unfold moveIndIndIncW
  split
  · exact (reads_readRw (.refl s) m).bind fun la _ => (stays_readIndIncW (.refl s) m).bind fun p hp =>
      stays_finishThroughW hp.drawBit _ _ _
  · exact stays_moveW (stays_readIndIncW (.refl s) m) fun u r hu => stays_finishIndW hu n r

theorem stays_moveIndIndIncB (s : State) (n m : Nib) : StaysState s (moveIndIndIncB s n m) := by
  unfold moveIndIndIncB
  split
  · exact (reads_readRw (.refl s) m).bind fun la _ => (stays_readIndIncB (.refl s) m).bind fun p hp =>
      stays_finishThroughB hp.drawBit _ _ _
  · exact stays_moveB (stays_readIndIncB (.refl s) m) fun u r hu => stays_finishIndB hu n r

theorem Keeps.branch {s t : State} (h : Keeps s t) (length : Nat) (taken : Bool) (target : Word) :
    Keeps s (branch t length taken target) := h.goto _

theorem stays_jumpOnBit (s : State) (wanted : Bool) (b : Byte) (p : Nib) (rel : Byte) :
    StaysState s (jumpOnBit s wanted b p rel) :=
  (reads_readBit s b p).bind fun _ _ => (Keeps.refl s).branch 4 _ _

theorem stays_jumpOnBitAndChange (s : State) (wanted : Bool) (b : Byte) (p : Nib) (rel : Byte) :
    StaysState s (jumpOnBitAndChange s wanted b p rel) :=
  (reads_bitoffAddress s s b).bind fun pa _ => (reads_memReadW (.refl s) pa).bind fun _ _ =>
    (stays_memWriteWhenW (.refl s) _ pa _).bind fun _ hu => (hu.setFlagsFor pa _).branch 4 _ _

theorem stays_call {s t : State} (h : Keeps s t) (length : Nat) (target : Word) : StaysState s (call t length target) :=
  (stays_push h _).map fun _ hu => hu.goto target

theorem stays_callSegment (s : State) (seg : Byte) (caddr : Word) : StaysState s (callSegment s seg caddr) :=
  (stays_push (.refl s) _).bind fun _ hu => (stays_push hu _).bind fun _ hv => (hv.setCsp seg).goto caddr

theorem stays_popToReg {s t : State} (h : Keeps s t) (reg : Byte) (v : Word) : StaysState s (popToReg t reg v) :=
  stays_toW h (fun u => reads_regAddressW s u reg) _

theorem stays_popInto (s : State) (reg : Byte) : StaysState s (popInto s reg) :=
  (stays_pop (.refl s)).bind fun _ hp => stays_popToReg hp reg _

theorem stays_pushFrom (s : State) (reg : Byte) : StaysState s (pushFrom s reg) :=
  (reads_readW (.refl s) (reads_regAddressW s s reg)).bind fun v _ => (stays_push (.refl s) v).bind fun _ hu =>
    hu.setFlags _

theorem stays_pushAndCall (s : State) (reg : Byte) (caddr : Word) : StaysState s (pushAndCall s reg caddr) :=
  (reads_readW (.refl s) (reads_regAddressW s s reg)).bind fun v _ => (stays_push (.refl s) v).bind fun _ hu =>
    (stays_push hu _).bind fun _ hv => (hv.setFlags _).goto caddr

theorem stays_returnNear (s : State) : StaysState s (returnNear s) :=
  (stays_pop (.refl s)).map fun p hp => hp.goto p.1

theorem stays_returnSegment (s : State) : StaysState s (returnSegment s) :=
  (stays_pop (.refl s)).bind fun p hp => (stays_pop hp).bind fun _ hq => (hq.setCsp _).goto p.1

theorem stays_returnAndPop (s : State) (reg : Byte) : StaysState s (returnAndPop s reg) :=
  (stays_pop (.refl s)).bind fun p hp => (stays_pop hp).bind fun _ hq => (stays_popToReg hq reg _).bind fun _ hu =>
    hu.goto p.1

theorem stays_returnFromInterrupt (s : State) : StaysState s (returnFromInterrupt s) := by
  unfold returnFromInterrupt
  refine (stays_pop (.refl s)).bind fun p hp => ?_
  have popPsw : ∀ u, Keeps s u → StaysState s (do
      let q ← pop u
      pure { q.2 with psw := pswOf q.2.cfg q.1, ip := p.1 }) :=
    fun u hu => (stays_pop hu).bind fun q hq => stays_ok ((hq.setPsw q.1).goto p.1)
  dsimp only
  split
  · exact (stays_ok hp).bind popPsw
  · exact ((stays_pop hp).map fun _ hq => hq.setCsp _).bind popPsw

theorem Keeps.clearCsp {s t : State} (h : Keeps s t) : Keeps s { t with csp := 0 } :=
  h.update rfl rfl fun i => { i with csp := segOf_zero _ }

theorem stays_saveAndVector {s t : State} (h : Keeps s t) (old : Word) (number : BitVec 7) (ret : Word) :
    StaysState s (saveAndVector t old number ret) := by
  unfold saveAndVector
  refine (stays_push h old).bind fun u hu => ?_
  have pushReturn : ∀ v, Keeps s v → StaysState s (do
      let w ← push v ret
      pure { w with ip := 4 * number.setWidth 16 }) :=
    fun v hv => (stays_push hv ret).bind fun w hw => stays_ok (hw.goto _)
  dsimp only
  split
  · exact (stays_ok hu).bind pushReturn
  · exact ((stays_push hu _).map fun _ hv => hv.clearCsp).bind pushReturn

/-- A sequence starts only on a device that has the instructions that start one (47_system_control.md R398). -/
theorem Keeps.startSequence {s : State} (hd : s.cfg.variant.hasExt = true) (g : BitVec 2) (sfr : SfrRange)
    (data : DataOverride) : Keeps s (startSequence s g sfr data) :=
  (Keeps.refl s).update rfl rfl fun i =>
    { i with
      count := Nat.succ_le_of_lt g.isLt
      standard := fun hz => absurd hz (Nat.succ_ne_zero _)
      device := fun hn => absurd (hd.symm.trans hn) (by decide) }

theorem stays_startPage {s : State} (hd : s.cfg.variant.hasExt = true) (m : Nib) (g : BitVec 2) (sfr : SfrRange) :
    StaysState s (startPage s m g sfr) := (reads_readRw (.refl s) m).map fun _ _ => Keeps.startSequence hd g sfr _

theorem stays_startSegment {s : State} (hd : s.cfg.variant.hasExt = true) (m : Nib) (g : BitVec 2) (sfr : SfrRange) :
    StaysState s (startSegment s m g sfr) := (reads_readRw (.refl s) m).map fun _ _ => Keeps.startSequence hd g sfr _

end Templates

end Sys2Proof.Machine
end

section
/-! PROOFS of the statements about the whole machine: every instruction but SRST keeps the invariant, the configuration and
the queue, or stops in a state that does. -/

namespace Sys2Proof.Machine

/-! ### The remaining shapes of an instruction -/

/-- The instruction comes to an operation that keeps what `s` had. -/
def Runs (s : State) (o : Host.Outcome State Fault Refusal) : Prop := ∃ ret r, o = settle ret r ∧ StaysState s r

theorem runs_settle {s : State} {ret : Word} {r : Res State} (h : StaysState s r) : Runs s (settle ret r) := ⟨ret, r, rfl, h⟩

theorem runs_next {s t : State} (h : Keeps s t) : Runs s (.next t) := ⟨0, .ok t, rfl, h⟩

theorem runs_complete {s : State} {length : Nat} {r : Res State} (h : StaysState s r) : Runs s (complete length s r) :=
  runs_settle (h.map fun _ ht => ht.goto _)

/-- A conditional instruction: the operation, or the following instruction. -/
theorem runs_ifTaken {s : State} {taken : Bool} {ret next : Word} {r : Res State} (h : StaysState s r) :
    Runs s (if taken then settle ret r else .next (s.goto next)) := by
  cases taken with
  | true => exact runs_settle h
  | false => exact runs_next ((Keeps.refl s).goto next)

/-- PWRDN, which powers down where the NMI pin is low. -/
theorem Keeps.powerDown (s : State) : Keeps s (if s.nmiLow then { s with runState := .powerDown } else s) := by
  split
  · exact (Keeps.refl s).congr rfl
  · exact .refl s

/-- DISWDT, which a locked watchdog ignores. -/
theorem Keeps.disableWatchdog (s : State) : Keeps s (if s.wdtLocked then s else { s with wdtEnabled := false }) := by
  split
  · exact .refl s
  · exact (Keeps.refl s).congr rfl

theorem stays_moveToW {s : State} {source : Res (Word × State)} {address : State → Res Nat} (hs : StaysPair s source)
    (ha : ∀ u, Reads s (address u)) : StaysState s (moveW source (toW address)) :=
  stays_moveW hs fun _ r hu => stays_toW hu ha r

theorem stays_moveToB {s : State} {source : Res (Byte × State)} {address : State → Res Nat} (hs : StaysPair s source)
    (ha : ∀ u, Reads s (address u)) : StaysState s (moveB source (toB address)) :=
  stays_moveB hs fun _ r hu => stays_toB hu ha r

/-- Every instruction but SRST; a sequence starts only on a device that has the instructions that start one. -/
theorem runs_exec {i : Instr} {s : State} (hreset : i ≠ .srst) (hd : i.isStarter = true → s.cfg.variant.hasExt = true) :
    Runs s (exec i s) := by
  cases i with
  | addRwRw _ _ | addcRwRw _ _ | subRwRw _ _ | subcRwRw _ _ | xorRwRw _ _ | andRwRw _ _ | orRwRw _ _ =>
    exact runs_complete (stays_aluW (stays_fromRw (.refl s) _) (reads_rwAddress s · _) _ _)
  | addRwInd _ _ | addcRwInd _ _ | subRwInd _ _ | subcRwInd _ _ | xorRwInd _ _ | andRwInd _ _ | orRwInd _ _ =>
    exact runs_complete (stays_aluW (stays_readIndW (.refl s) _) (reads_rwAddress s · _) _ _)
  | addRwIndInc _ _ | addcRwIndInc _ _ | subRwIndInc _ _ | subcRwIndInc _ _ | xorRwIndInc _ _ | andRwIndInc _ _
  | orRwIndInc _ _ =>
    exact runs_complete (stays_aluRwIndInc _ _ _ _)
  | addRwData3 _ _ | addcRwData3 _ _ | subRwData3 _ _ | subcRwData3 _ _ | xorRwData3 _ _ | andRwData3 _ _
  | orRwData3 _ _ =>
    exact runs_complete (stays_aluW (stays_fromConst (.refl s) _ _) (reads_rwAddress s · _) _ _)
  | addRegData16 _ _ | addcRegData16 _ _ | subRegData16 _ _ | subcRegData16 _ _ | xorRegData16 _ _
  | andRegData16 _ _ | orRegData16 _ _ =>
    exact runs_complete (stays_aluW (stays_fromConst (.refl s) _ _) (reads_regAddressW s · _) _ _)
  | addRegMem _ _ | addcRegMem _ _ | subRegMem _ _ | subcRegMem _ _ | xorRegMem _ _ | andRegMem _ _
  | orRegMem _ _ =>
    exact runs_complete (stays_aluW (stays_fromMemW (.refl s) _) (reads_regAddressW s · _) _ _)
  | addMemReg _ _ | addcMemReg _ _ | subMemReg _ _ | subcMemReg _ _ | xorMemReg _ _ | andMemReg _ _
  | orMemReg _ _ =>
    exact runs_complete (stays_aluW (stays_fromRegW (.refl s) _) (reads_memAddress s · _) _ _)
  | addbRbRb _ _ | addcbRbRb _ _ | subbRbRb _ _ | subcbRbRb _ _ | xorbRbRb _ _ | andbRbRb _ _ | orbRbRb _ _ =>
    exact runs_complete (stays_aluB (stays_fromRb (.refl s) _) (reads_rbAddress s · _) _ _)
  | addbRbInd _ _ | addcbRbInd _ _ | subbRbInd _ _ | subcbRbInd _ _ | xorbRbInd _ _ | andbRbInd _ _
  | orbRbInd _ _ =>
    exact runs_complete (stays_aluB (stays_readIndB (.refl s) _) (reads_rbAddress s · _) _ _)
  | addbRbIndInc _ _ | addcbRbIndInc _ _ | subbRbIndInc _ _ | subcbRbIndInc _ _ | xorbRbIndInc _ _
  | andbRbIndInc _ _ | orbRbIndInc _ _ =>
    exact runs_complete (stays_aluRbIndInc _ _ _ _)
  | addbRbData3 _ _ | addcbRbData3 _ _ | subbRbData3 _ _ | subcbRbData3 _ _ | xorbRbData3 _ _ | andbRbData3 _ _
  | orbRbData3 _ _ =>
    exact runs_complete (stays_aluB (stays_fromConst (.refl s) _ _) (reads_rbAddress s · _) _ _)
  | addbRegData8 _ _ | addcbRegData8 _ _ | subbRegData8 _ _ | subcbRegData8 _ _ | xorbRegData8 _ _
  | andbRegData8 _ _ | orbRegData8 _ _ =>
    exact runs_complete (stays_aluB (stays_fromConst (.refl s) _ _) (reads_regAddressB s · _) _ _)
  | addbRegMem _ _ | addcbRegMem _ _ | subbRegMem _ _ | subcbRegMem _ _ | xorbRegMem _ _ | andbRegMem _ _
  | orbRegMem _ _ =>
    exact runs_complete (stays_aluB (stays_fromMemB (.refl s) _) (reads_regAddressB s · _) _ _)
  | addbMemReg _ _ | addcbMemReg _ _ | subbMemReg _ _ | subcbMemReg _ _ | xorbMemReg _ _ | andbMemReg _ _
  | orbMemReg _ _ =>
    exact runs_complete (stays_aluB (stays_fromRegB (.refl s) _) (reads_memAddress s · _) _ _)
  | cmpRwRw _ _ =>
    exact runs_complete (stays_compareW (stays_fromRw (.refl s) _) (reads_rwAddress s · _))
  | cmpRwInd _ _ =>
    exact runs_complete (stays_compareW (stays_readIndW (.refl s) _) (reads_rwAddress s · _))
  | cmpRwIndInc _ _ =>
    exact runs_complete (stays_compareRwIndInc _ _ _)
  | cmpRwData3 _ _ =>
    exact runs_complete (stays_compareW (stays_fromConst (.refl s) _ _) (reads_rwAddress s · _))
  | cmpRegData16 _ _ =>
    exact runs_complete (stays_compareW (stays_fromConst (.refl s) _ _) (reads_regAddressW s · _))
  | cmpRegMem _ _ =>
    exact runs_complete (stays_compareW (stays_fromMemW (.refl s) _) (reads_regAddressW s · _))
  | cmpbRbRb _ _ =>
    exact runs_complete (stays_compareB (stays_fromRb (.refl s) _) (reads_rbAddress s · _))
  | cmpbRbInd _ _ =>
    exact runs_complete (stays_compareB (stays_readIndB (.refl s) _) (reads_rbAddress s · _))
  | cmpbRbIndInc _ _ =>
    exact runs_complete (stays_compareRbIndInc _ _ _)
  | cmpbRbData3 _ _ =>
    exact runs_complete (stays_compareB (stays_fromConst (.refl s) _ _) (reads_rbAddress s · _))
  | cmpbRegData8 _ _ =>
    exact runs_complete (stays_compareB (stays_fromConst (.refl s) _ _) (reads_regAddressB s · _))
  | cmpbRegMem _ _ =>
    exact runs_complete (stays_compareB (stays_fromMemB (.refl s) _) (reads_regAddressB s · _))
  | mul _ _ | mulu _ _ =>
    exact runs_complete (stays_multiply _ _ _ _)
  | div _ | divl _ | divlu _ | divu _ =>
    exact runs_complete (stays_divide _ _ _)
  | cpl _ | neg _ =>
    exact runs_complete (stays_unaryRw _ _ _)
  | cplb _ | negb _ =>
    exact runs_complete (stays_unaryRb _ _ _)
  | bclr _ _ | bset _ _ =>
    exact runs_complete (stays_updateBit _ _ _ _ _)
  | bmov _ _ _ _ | bmovn _ _ _ _ | band _ _ _ _ | bor _ _ _ _ | bxor _ _ _ _ =>
    exact runs_complete (stays_combineBits _ _ _ _ _ _ _)
  | bcmp _ _ _ _ =>
    exact runs_complete (stays_compareBits _ _ _ _ _)
  | bfldh _ _ _ | bfldl _ _ _ =>
    exact runs_complete (stays_updateField _ _ _)
  | cmpd1RwData4 _ _ | cmpd1RwData16 _ _ | cmpd2RwData4 _ _ | cmpd2RwData16 _ _ | cmpi1RwData4 _ _
  | cmpi1RwData16 _ _ | cmpi2RwData4 _ _ | cmpi2RwData16 _ _ =>
    exact runs_complete (stays_compareLoop (stays_fromConst (.refl s) _ _) _ _)
  | cmpd1RwMem _ _ | cmpd2RwMem _ _ | cmpi1RwMem _ _ | cmpi2RwMem _ _ =>
    exact runs_complete (stays_compareLoop (stays_fromMemW (.refl s) _) _ _)
  | prior _ _ =>
    exact runs_complete (stays_prioritize _ _ _)
  | shlRwRw _ _ | shrRwRw _ _ | rolRwRw _ _ | rorRwRw _ _ | ashrRwRw _ _ =>
    exact runs_complete (stays_shift (stays_fromRw (.refl s) _) _ _)
  | shlRwData4 _ _ | shrRwData4 _ _ | rolRwData4 _ _ | rorRwData4 _ _ | ashrRwData4 _ _ =>
    exact runs_complete (stays_shift (stays_fromConst (.refl s) _ _) _ _)
  | movRwRw _ _ =>
    exact runs_complete (stays_moveToW (stays_fromRw (.refl s) _) (reads_rwAddress s · _))
  | movRwData4 _ _ =>
    exact runs_complete (stays_moveToW (stays_fromConst (.refl s) _ _) (reads_rwAddress s · _))
  | movRegData16 _ _ =>
    exact runs_complete (stays_moveToW (stays_fromConst (.refl s) _ _) (reads_regAddressW s · _))
  | movRwInd _ _ =>
    exact runs_complete (stays_moveToW (stays_readIndW (.refl s) _) (reads_rwAddress s · _))
  | movRwIndInc _ _ =>
    exact runs_complete (stays_moveRwIndInc _ _ _)
  | movIndRw _ _ =>
    exact runs_complete (stays_moveW (stays_fromRw (.refl s) _) fun _ r hu => stays_finishIndW hu _ r)
  | movPreDecRw _ _ =>
    exact runs_complete (stays_movePreDecRw _ _ _)
  | movIndInd _ _ =>
    exact runs_complete (stays_moveW (stays_readIndW (.refl s) _) fun _ r hu => stays_finishIndW hu _ r)
  | movIndIncInd _ _ =>
    exact runs_complete (stays_moveIndIncIndW _ _ _)
  | movIndIndInc _ _ =>
    exact runs_complete (stays_moveIndIndIncW _ _ _)
  | movRwDisp _ _ _ =>
    exact runs_complete (stays_moveToW (stays_readDispW (.refl s) _ _) (reads_rwAddress s · _))
  | movDispRw _ _ _ =>
    exact runs_complete (stays_moveW (stays_fromRw (.refl s) _) fun _ r hu => stays_finishDispW hu _ _ r)
  | movIndMem _ _ =>
    exact runs_complete (stays_moveW (stays_fromMemW (.refl s) _) fun _ r hu => stays_finishIndW hu _ r)
  | movMemInd _ _ =>
    exact runs_complete (stays_moveToW (stays_readIndW (.refl s) _) (reads_memAddress s · _))
  | movRegMem _ _ =>
    exact runs_complete (stays_moveToW (stays_fromMemW (.refl s) _) (reads_regAddressW s · _))
  | movMemReg _ _ =>
    exact runs_complete (stays_moveToW (stays_fromRegW (.refl s) _) (reads_memAddress s · _))
  | movbRbRb _ _ =>
    exact runs_complete (stays_moveToB (stays_fromRb (.refl s) _) (reads_rbAddress s · _))
  | movbRbData4 _ _ =>
    exact runs_complete (stays_moveToB (stays_fromConst (.refl s) _ _) (reads_rbAddress s · _))
  | movbRegData8 _ _ =>
    exact runs_complete (stays_moveToB (stays_fromConst (.refl s) _ _) (reads_regAddressB s · _))
  | movbRbInd _ _ =>
    exact runs_complete (stays_moveToB (stays_readIndB (.refl s) _) (reads_rbAddress s · _))
  | movbRbIndInc _ _ =>
    exact runs_complete (stays_moveRbIndInc _ _ _)
  | movbIndRb _ _ =>
    exact runs_complete (stays_moveB (stays_fromRb (.refl s) _) fun _ r hu => stays_finishIndB hu _ r)
  | movbPreDecRb _ _ =>
    exact runs_complete (stays_movePreDecRb _ _ _)
  | movbIndInd _ _ =>
    exact runs_complete (stays_moveB (stays_readIndB (.refl s) _) fun _ r hu => stays_finishIndB hu _ r)
  | movbIndIncInd _ _ =>
    exact runs_complete (stays_moveIndIncIndB _ _ _)
  | movbIndIndInc _ _ =>
    exact runs_complete (stays_moveIndIndIncB _ _ _)
  | movbRbDisp _ _ _ =>
    exact runs_complete (stays_moveToB (stays_readDispB (.refl s) _ _) (reads_rbAddress s · _))
  | movbDispRb _ _ _ =>
    exact runs_complete (stays_moveB (stays_fromRb (.refl s) _) fun _ r hu => stays_finishDispB hu _ _ r)
  | movbIndMem _ _ =>
    exact runs_complete (stays_moveB (stays_fromMemB (.refl s) _) fun _ r hu => stays_finishIndB hu _ r)
  | movbMemInd _ _ =>
    exact runs_complete (stays_moveToB (stays_readIndB (.refl s) _) (reads_memAddress s · _))
  | movbRegMem _ _ =>
    exact runs_complete (stays_moveToB (stays_fromMemB (.refl s) _) (reads_regAddressB s · _))
  | movbMemReg _ _ =>
    exact runs_complete (stays_moveToB (stays_fromRegB (.refl s) _) (reads_memAddress s · _))
  | movbsRwRb _ _ | movbzRwRb _ _ =>
    exact runs_complete (stays_moveExtended (stays_fromRb (.refl s) _) (reads_rwAddress s · _) _ _)
  | movbsRegMem _ _ | movbzRegMem _ _ =>
    exact runs_complete (stays_moveExtended (stays_fromMemB (.refl s) _) (reads_regAddressW s · _) _ _)
  | movbsMemReg _ _ | movbzMemReg _ _ =>
    exact runs_complete (stays_moveExtended (stays_fromRegB (.refl s) _) (reads_memAddress s · _) _ _)
  | jmpa _ _ =>
    exact runs_next ((Keeps.refl s).branch _ _ _)
  | jmpi _ _ =>
    exact runs_ifTaken ((reads_readRw (.refl s) _).map fun _ _ => (Keeps.refl s).goto _)
  | jmpr _ _ =>
    exact runs_next ((Keeps.refl s).branch _ _ _)
  | jmps _ _ =>
    exact runs_next (((Keeps.refl s).setCsp _).goto _)
  | jb _ _ _ | jnb _ _ _ =>
    exact runs_settle (stays_jumpOnBit _ _ _ _ _)
  | jbc _ _ _ | jnbs _ _ _ =>
    exact runs_settle (stays_jumpOnBitAndChange _ _ _ _ _)
  | calla _ _ =>
    exact runs_ifTaken (stays_call (.refl s) _ _)
  | calli _ _ =>
    exact runs_ifTaken ((reads_readRw (.refl s) _).bind fun _ _ => stays_call (.refl s) _ _)
  | callr _ =>
    exact runs_settle (stays_call (.refl s) _ _)
  | calls _ _ =>
    exact runs_settle (stays_callSegment _ _ _)
  | pcall _ _ =>
    exact runs_settle (stays_pushAndCall _ _ _)
  | trap _ =>
    exact runs_settle (stays_saveAndVector (.refl s) _ _ _)
  | pop _ =>
    exact runs_complete (stays_popInto _ _)
  | push _ =>
    exact runs_complete (stays_pushFrom _ _)
  | scxtRegData16 _ _ =>
    exact runs_complete (stays_switchContext (stays_fromConst (.refl s) _ _) _)
  | scxtRegMem _ _ =>
    exact runs_complete (stays_switchContext (stays_fromMemW (.refl s) _) _)
  | ret =>
    exact runs_settle (stays_returnNear _)
  | rets =>
    exact runs_settle (stays_returnSegment _)
  | retp _ =>
    exact runs_settle (stays_returnAndPop _ _)
  | reti =>
    exact runs_settle (stays_returnFromInterrupt _)
  | srst =>
    exact absurd rfl hreset
  | idle =>
    exact runs_next ((Keeps.refl s).congr rfl)
  | pwrdn =>
    exact runs_next ((Keeps.powerDown s).goto _)
  | srvwdt =>
    exact runs_next ((Keeps.refl s).congr rfl)
  | diswdt =>
    exact runs_next ((Keeps.disableWatchdog s).goto _)
  | einit =>
    exact runs_next ((Keeps.refl s).congr rfl)
  | atomic _ | extr _ | extpPag _ _ | extprPag _ _ | extsSeg _ _ | extsrSeg _ _ =>
    exact runs_complete (stays_ok (Keeps.startSequence (hd rfl) _ _ _))
  | extpRw _ _ | extprRw _ _ =>
    exact runs_complete (stays_startPage (hd rfl) _ _ _)
  | extsRw _ _ | extsrRw _ _ =>
    exact runs_complete (stays_startSegment (hd rfl) _ _ _)
  | nop =>
    exact runs_complete (stays_ok (Keeps.refl s))

end Sys2Proof.Machine
end

section
/-! PROOFS of the statements about the whole machine: what a step leaves of the invariant, the configuration and the queue. -/

namespace Sys2Proof.Machine

/-! ### The invariant without the queue -/

/-- The configuration is as it was and the invariant holds if it held; the queue may differ. -/
structure Moves (s t : State) : Prop where
  cfg : t.cfg = s.cfg
  inv : StateInv s → StateInv t

theorem Keeps.moves {s t : State} (h : Keeps s t) : Moves s t := ⟨h.cfg, h.inv⟩

theorem Moves.refl (s : State) : Moves s s := (Keeps.refl s).moves

theorem Moves.trans {s t u : State} (h : Moves s t) (k : Moves t u) : Moves s u :=
  ⟨k.cfg.trans h.cfg, fun i => k.inv (h.inv i)⟩

theorem Moves.setPending (s : State) (queue : List Request) : Moves s { s with pending := queue } :=
  ⟨rfl, fun i => ⟨i.mem, i.count, i.standard, i.device, i.cp, i.csp, i.psw, i.config⟩⟩

theorem Keeps.endSequence {s t : State} (h : Keeps s t) : Keeps s t.endSequence :=
  h.update rfl rfl fun i =>
    { i with count := Nat.zero_le 4, standard := fun _ => ⟨rfl, rfl⟩, device := fun _ => rfl }

theorem Keeps.setTfr {s t : State} (h : Keeps s t) (v : Word) : Keeps s { t with tfr := v } := h.congr rfl

theorem Keeps.setLevel {s t : State} (h : Keeps s t) (level : Nib) :
    Keeps s { t with psw := pswWithLevel t.psw level } :=
  h.update rfl rfl fun i => { i with psw := pswStored_pswWithLevel i.psw level }

/-! ### Entries -/

theorem stays_enter {s t : State} (h : Keeps s t) (number : BitVec 7) (ret : Word) (level : Nib) :
    StaysState s (enter t number ret level) := stays_saveAndVector (h.setLevel level) _ _ _

theorem stays_enterNmi {s t : State} (h : Keeps s t) (ret : Word) : StaysState s (enterNmi t ret) :=
  stays_enter (h.setTfr _) _ _ _

/-- The queue after the entry of a class B trap: no class B trap waits any more; or, where an NMI is pending, the NMI has
left the queue and the trap waits (60_exceptions.md R433). -/
def TrapQueue (before after : List Request) : Prop :=
  .nmi ∉ before ∧ after = before.filter (fun r => !r.isClassB) ∨
    .nmi ∈ before ∧ ∃ trap, after = before.erase .nmi ++ [.classB trap]

/-- The entry of a class B trap starts from a state that has the queue of the entry already. -/
theorem stays_enterRaised (s : State) (trap : Trap) (ret : Word) :
    ∃ v, Moves s v ∧ TrapQueue s.pending v.pending ∧ StaysState v (enterRaised s trap ret) := by
  by_cases hn : .nmi ∈ s.pending
  · rw [enterRaised_behind hn]
    exact ⟨_, Moves.setPending s _, .inr ⟨hn, trap, rfl⟩, stays_enterNmi (.refl _) ret⟩
  · rw [enterRaised_alone hn]
    exact ⟨s.withoutClassB, Moves.setPending s _, .inl ⟨hn, rfl⟩, stays_enter (.refl _) _ _ _⟩

/-- What a raised trap leaves, if the run goes on: the entry of a class B trap. -/
theorem raiseTrap_next {s t : State} {trap : Trap} {ret : Word} (h : raiseTrap s trap ret = .next t) :
    s.cfg.hwTrapEntry = true ∧ Moves s t ∧ TrapQueue s.pending t.pending := by
  unfold raiseTrap at h
  split at h
  next entry =>
    obtain ⟨v, hv, hq, hr⟩ := stays_enterRaised { s.endSequence with tfr := s.tfr ||| trapFlag trap } trap ret
    split at h
    next u hu =>
      cases h
      rw [hu] at hr
      have before : Moves s v := (((Keeps.refl s).endSequence).setTfr _).moves.trans hv
      exact ⟨entry, before.trans (Keeps.moves hr), (Keeps.pending hr).symm ▸ hq⟩
    all_goals cases h
  next => cases h

/-! ### What an instruction leaves -/

/-- An instruction left the queue as it was, or a class B trap that it raised was entered. -/
def Results (s t : State) : Prop :=
  Keeps s t ∨ s.cfg.hwTrapEntry = true ∧ Moves s t ∧ TrapQueue s.pending t.pending

theorem Results.moves {s t : State} (h : Results s t) : Moves s t := by
  rcases h with h | ⟨-, h, -⟩
  · exact h.moves
  · exact h

theorem Results.trans_keeps {s t u : State} (h : Results s t) (k : Keeps t u) : Results s u := by
  rcases h with h | ⟨entry, h, hq⟩
  · exact .inl ⟨k.cfg.trans h.cfg, k.pending.trans h.pending, fun i => k.inv (h.inv i)⟩
  · exact .inr ⟨entry, h.trans k.moves, k.pending.symm ▸ hq⟩

/-- What is said of a stop does not depend on what the operation would have answered. -/
theorem Stays.error {α β : Type} {s : State} {e : Stop} {P : α → Prop} {Q : β → Prop}
    (h : Stays s (.error e : Res α) P) : Stays s (.error e : Res β) Q := by
  cases e <;> exact h

theorem settle_next {s t : State} {ret : Word} {r : Res State} (hr : StaysState s r) (h : settle ret r = .next t) :
    Results s t := by
  cases r with
  | ok u =>
    cases h
    exact .inl hr
  | error e =>
    cases e with
    | refuse r => cases h
    | trap trap u =>
      have kept : Keeps s u := hr
      obtain ⟨entry, moved, queue⟩ := raiseTrap_next h
      exact .inr ⟨kept.cfg ▸ entry, kept.moves.trans moved, kept.pending ▸ queue⟩

/-- The counting of a sequence keeps the invariant (47_system_control.md R399). -/
theorem Keeps.countInSequence (s : State) : Keeps s s.countInSequence := by
  unfold State.countInSequence
  split
  next => exact .refl s
  next => exact (Keeps.refl s).endSequence
  next k hk =>
    refine (Keeps.refl s).update rfl rfl fun i => { i with count := ?_, standard := ?_, device := ?_ }
    · have : s.seqCount ≤ 4 := i.count
      change k + 1 ≤ 4
      omega
    · exact fun hz => absurd hz (Nat.succ_ne_zero k)
    · exact fun hn => absurd ((i.device hn).symm.trans hk) (by omega)

theorem afterInstruction_next {i : Instr} {o : Host.Outcome State Fault Refusal} {t : State}
    (h : afterInstruction i o = .next t) : ∃ u, o = .next u ∧ t = if i.isStarter then u else u.countInSequence := by
  cases o with
  | next u =>
    cases h
    exact ⟨u, rfl, rfl⟩
  | fault f => cases h
  | refused r => cases h

/-! ### Fetch -/

theorem reads_fetchWord (s : State) (ip : Word) : Reads s (fetchWord s ip) := by
  unfold fetchWord
  dsimp only
  split
  · trivial
  · exact (reads_memReadW (.refl s) _).map fun _ _ => trivial

theorem reads_fetchBytes (s : State) : Reads s (fetchBytes s) := by
  refine (reads_fetchWord s s.ip).bind fun first _ => ?_
  dsimp only
  split
  · trivial
  · exact (reads_fetchWord s _).bind fun second _ => trivial

theorem reads_decodeStop (s : State) (bytes : List Byte) (e : DecodeError) :
    Reads s (.error (decodeStop s bytes e) : Res Instr) := by
  cases e with
  | undefinedOpcode => exact Keeps.refl s
  | protectionFault => exact Keeps.refl s
  | noSuchEncoding => trivial
  | truncated => trivial

/-- A trap of the fetch is raised with nothing changed. -/
theorem reads_fetch (s : State) : Reads s (fetch s) := by
  unfold fetch
  split
  · exact Keeps.refl s
  · refine (reads_fetchBytes s).bind fun bytes _ => ?_
    split
    · trivial
    · exact reads_decodeStop s bytes _

/-- What is fetched is decoded, so it is an instruction of the device. -/
theorem wellFormed_of_fetch {s : State} {i : Instr} (h : fetch s = .ok i) : WellFormed s.cfg.variant i := by
  unfold fetch at h
  split at h
  · cases h
  · obtain ⟨bytes, -, hd⟩ := bind_eq_ok h
    split at hd
    next j rest hj =>
      cases hd
      exact wellFormed_of_decode hj
    next => cases hd

theorem hasExt_of_starter {v : Variant} {i : Instr} (h : WellFormed v i) (hs : i.isStarter = true) : v.hasExt = true := by
  rw [variant_of_starter h hs]
  rfl

/-! ### One instruction -/

/-- An instruction that goes on kept the queue or entered a trap, unless it is SRST. -/
theorem instructionStep_next {s t : State} (hreset : fetch s ≠ .ok .srst) (h : instructionStep s = .next t) :
    Results s t := by
  unfold instructionStep at h
  split at h
  next e he =>
    have stays := reads_fetch s
    rw [he] at stays
    exact settle_next stays.error h
  next i hi =>
    have notReset : i ≠ .srst := fun hs => hreset (hs ▸ hi)
    obtain ⟨u, hu, ht⟩ := afterInstruction_next h
    obtain ⟨ret, r, hr, stays⟩ := runs_exec notReset (hasExt_of_starter (wellFormed_of_fetch hi))
    have results : Results s u := settle_next stays (hr.symm.trans hu)
    subst ht
    split
    · exact results
    · exact results.trans_keeps (Keeps.countInSequence u)

theorem countInSequence_doReset (s : State) : s.doReset.countInSequence = s.doReset := rfl

theorem instructionStep_srst {s : State} (h : fetch s = .ok .srst) : instructionStep s = .next s.doReset := by
  unfold instructionStep
  rw [h]
  rfl

/-- A legal configuration's reset values make a state with the invariant (10_state.md R55). -/
theorem Moves.doReset (s : State) : Moves s s.doReset where
  cfg := rfl
  inv i := by
    obtain ⟨⟨hcp, hcsp⟩, -⟩ : (cpLegal s.cfg.resetState.cp = true ∧
        segOf s.cfg.variant s.cfg.resetState.csp = s.cfg.resetState.csp) ∧ layoutLegal s.cfg = true := by
      simpa [configLegal] using i.config
    have masked : ∀ k : Fin 16, (0xFC7F : Word).getLsbD k = false → (0xFC60 : Word).getLsbD k = false := by decide
    have hpsw : pswStored s.doReset.psw = s.doReset.psw := by
      rw [pswStored_eq_iff]
      have clear : ∀ k : Fin 16, (0xFC60 : Word).getLsbD k = false → s.doReset.psw.getLsbD k = false := fun k hk => by
        change (s.cfg.resetState.psw &&& 0xFC60).getLsbD k = false
        rw [BitVec.getLsbD_and, hk, Bool.and_false]
      exact ⟨clear 7 (by decide), clear 8 (by decide), clear 9 (by decide)⟩
    exact ⟨i.mem, Nat.zero_le 4, fun _ => ⟨rfl, rfl⟩, fun _ => rfl, hcp, hcsp, hpsw, i.config⟩

theorem instructionStep_moves {s t : State} (h : instructionStep s = .next t) : Moves s t := by
  by_cases hs : fetch s = .ok .srst
  · rw [instructionStep_srst hs] at h
    cases h
    exact .doReset s
  · exact (instructionStep_next hs h).moves

/-! ### One request -/

theorem stays_serve (s : State) (r : Request) : ∃ v, Moves s v ∧ StaysState v (serve s r) := by
  cases r with
  | interrupt number level => exact ⟨s, .refl s, stays_enter (.refl s) _ _ _⟩
  | nmi => exact ⟨s, .refl s, stays_enterNmi (.refl s) _⟩
  | classB trap =>
    obtain ⟨v, hv, -, stays⟩ := stays_enterRaised s.endSequence trap s.ip
    exact ⟨v, (Keeps.refl s).endSequence.moves.trans hv, stays⟩
  | pecWord source destination =>
    exact ⟨s, .refl s, (reads_memReadW (.refl s) _).bind fun v _ => stays_memWriteW (.refl s) _ v⟩
  | pecByte source destination =>
    exact ⟨s, .refl s, (reads_memReadB _).bind fun v _ => stays_memWriteB (.refl s) _ v⟩

theorem accept_moves {s t : State} {r : Request} (h : accept s r = .next t) : Moves s t := by
  obtain ⟨v, hv, stays⟩ := stays_serve { s with pending := s.pending.erase r } r
  exact (Moves.setPending s _).trans (hv.trans (settle_next stays h).moves)

/-! ### One step -/

theorem runningStep_moves {s t : State} (h : runningStep s = .next t) : Moves s t := by
  unfold runningStep at h
  split at h
  next => exact ((Keeps.refl s).setTfr _).moves.trans (accept_moves h)
  next =>
    split at h
    · exact instructionStep_moves h
    · exact accept_moves h
  next => exact instructionStep_moves h

theorem idleStep_moves {s t : State} (h : idleStep s = .next t) : Moves s t := by
  unfold idleStep at h
  split at h
  · cases h
  · cases h
    have woken : Keeps s { s with runState := .running } := (Keeps.refl s).congr rfl
    exact woken.moves

theorem step_moves {s t : State} (h : step s = .next t) : Moves s t := by
  unfold step cycle at h
  split at h
  · cases h
    exact .doReset s
  · split at h
    · cases h
    · exact idleStep_moves h
    · exact runningStep_moves h

end Sys2Proof.Machine

namespace Sys2Proof.Proofs

open Sys2Proof.Machine

/-- Settles O59: every kind of step moves to a state with the invariant; for the instructions this is `runs_exec`, access
by access. -/
theorem stepKeepsInvariant : Obligations.StepKeepsInvariant := by
  unfold Obligations.StepKeepsInvariant
  intro s t hs h
  have moved := step_moves h
  exact ⟨moved.inv hs, moved.cfg⟩

/-- Settles O60: the reset state is the default configuration's, whose values are legal. -/
theorem resetHasInvariant : Obligations.ResetHasInvariant := by
  unfold Obligations.ResetHasInvariant
  exact ⟨by decide, by decide, by decide, by decide, by decide, by decide, by decide, by decide⟩

end Sys2Proof.Proofs
end

section
/-! PROOFS of the statements about the order of a step: what is served, what is fetched, what a sequence locks out. -/

namespace Sys2Proof.Machine

/-! ### Which step is taken -/

theorem step_running {s : State} (hr : resetRequested s = false) (hrun : s.runState = .running) :
    step s = runningStep s := by
  simp [step, cycle, hr, hrun]

theorem runningStep_none {s : State} (h : nextRequest s = none) : runningStep s = instructionStep s := by
  simp [runningStep, h]

/-- Where nothing is served the step is the instruction's. -/
theorem step_instruction {s : State} (hr : resetRequested s = false) (hrun : s.runState = .running)
    (h : nextRequest s = none) : step s = instructionStep s := by
  rw [step_running hr hrun, runningStep_none h]

theorem instructionStep_ok {s : State} {i : Instr} (h : fetch s = .ok i) :
    instructionStep s = afterInstruction i (exec i s) := by
  simp [instructionStep, h]

theorem instructionStep_trap {s u : State} {t : Trap} (h : fetch s = .error (.trap t u)) :
    instructionStep s = raiseTrap u t s.ip := by
  simp [instructionStep, h]

/-! ### Which request is served -/

theorem acceptable_nmi {s : State} : acceptable s .nmi = true ↔ s.seqCount = 0 := by simp [acceptable]

/-- What is served is acceptable. -/
theorem nextRequest_acceptable {s : State} {r : Request} (h : nextRequest s = some r) : acceptable s r = true := by
  unfold nextRequest at h
  split at h
  next hn =>
    cases h
    rw [Bool.and_eq_true, beq_iff_eq] at hn
    exact acceptable_nmi.2 hn.1
  next =>
    rcases Option.or_eq_some_iff.1 h with h | ⟨-, h⟩
    · have := List.find?_some h
      rw [Bool.and_eq_true] at this
      exact this.2
    · exact List.find?_some h

/-- What is served is pending. -/
theorem nextRequest_mem {s : State} {r : Request} (h : nextRequest s = some r) : r ∈ s.pending := by
  unfold nextRequest at h
  split at h
  next hn =>
    cases h
    rw [Bool.and_eq_true, List.contains_iff_mem] at hn
    exact hn.2
  next =>
    rcases Option.or_eq_some_iff.1 h with h | ⟨-, h⟩ <;> exact List.mem_of_find?_eq_some h

/-- Inside a sequence only a class B trap is acceptable (10_state.md R47). -/
theorem classB_of_acceptable {s : State} {r : Request} (hc : s.seqCount ≠ 0) (h : acceptable s r = true) :
    ∃ trap, r = .classB trap := by
  cases r with
  | classB trap => exact ⟨trap, rfl⟩
  | interrupt number level => simp [acceptable, hc] at h
  | nmi => simp [acceptable, hc] at h
  | pecWord source destination => simp [acceptable, hc] at h
  | pecByte source destination => simp [acceptable, hc] at h

theorem nextRequest_none_of_locked {s : State} (hc : s.seqCount ≠ 0) (hb : ∀ trap, .classB trap ∉ s.pending) :
    nextRequest s = none := by
  cases hn : nextRequest s with
  | none => rfl
  | some r =>
    obtain ⟨trap, rfl⟩ := classB_of_acceptable hc (nextRequest_acceptable hn)
    exact absurd (nextRequest_mem hn) (hb trap)

/-! ### What is fetched -/

theorem fetch_odd {s : State} (h : s.ip.toNat % 2 = 1) :
    fetch s = .error (.trap (.illegalInstructionAccess s.ip) s) := by
  simp [fetch, h]

theorem fetch_decoded {s : State} (he : s.ip.toNat % 2 = 0) {bytes rest : List Byte} {i : Instr}
    (hb : fetchBytes s = .ok bytes) (hd : decode s.cfg.variant bytes = .ok (i, rest)) : fetch s = .ok i := by
  have even : ¬ s.ip.toNat % 2 = 1 := by omega
  rw [fetch, if_neg even, hb, ok_bind, hd]

theorem fetch_undecoded {s : State} (he : s.ip.toNat % 2 = 0) {bytes : List Byte} {e : DecodeError}
    (hb : fetchBytes s = .ok bytes) (hd : decode s.cfg.variant bytes = .error e) :
    fetch s = .error (decodeStop s bytes e) := by
  have even : ¬ s.ip.toNat % 2 = 1 := by omega
  rw [fetch, if_neg even, hb, ok_bind, hd]

/-- An undefined first byte is fetched with the first word only (30_encoding.md R150). -/
theorem fetchBytes_undefined {s : State} {b0 b1 : Byte} (hf : fetchWord s s.ip = .ok (b0, b1))
    (hu : undefinedFirst s.cfg.variant b0 = true) : fetchBytes s = .ok [b0, b1] := by
  rw [fetchBytes, hf, ok_bind]
  simp [hu]

theorem decode_undefined {v : Variant} {b0 : Byte} (hu : undefinedFirst v b0 = true) (b1 : Byte) (rest : List Byte) :
    decode v (b0 :: b1 :: rest) = .error .undefinedOpcode := by
  simp [decode, hu]

/-- A protected instruction is written with its bytes in the required pattern only (30_encoding.md R153). -/
theorem rowOf_protected {b0 : Byte} (h : b0 ∈ protectedOpcodes) :
    ∃ i, ∀ b1 b2 b3, rowOf b0 b1 b2 b3 = if b1 = ~~~b0 ∧ b2 = b0 ∧ b3 = b0 then some i else none := by
  simp only [protectedOpcodes, List.mem_cons, List.not_mem_nil, or_false] at h
  rcases h with rfl | rfl | rfl | rfl | rfl | rfl
  · exact ⟨.idle, fun _ _ _ => rfl⟩
  · exact ⟨.pwrdn, fun _ _ _ => rfl⟩
  · exact ⟨.diswdt, fun _ _ _ => rfl⟩
  · exact ⟨.srvwdt, fun _ _ _ => rfl⟩
  · exact ⟨.einit, fun _ _ _ => rfl⟩
  · exact ⟨.srst, fun _ _ _ => rfl⟩

theorem protected_known (v : Variant) : ∀ b0 ∈ protectedOpcodes, undefinedFirst v b0 = false ∧ lengthOf b0 ≠ 2 := by
  cases v <;> decide

theorem decode_protectionFault {b0 b1 b2 b3 : Byte} (v : Variant) (h : b0 ∈ protectedOpcodes)
    (hw : ¬(b1 = ~~~b0 ∧ b2 = b0 ∧ b3 = b0)) : decode v [b0, b1, b2, b3] = .error .protectionFault := by
  obtain ⟨i, hi⟩ := rowOf_protected h
  obtain ⟨known, long⟩ := protected_known v b0 h
  have row : rowOf b0 b1 b2 b3 = none := by rw [hi, if_neg hw]
  simp [decode, decodeBytes, known, long, row, h, Except.map]

/-! ### The counting of a sequence -/

/-- What the counting changes, and how (47_system_control.md R399). -/
theorem countInSequence_spec (t : State) :
    t.countInSequence.seqCount = t.seqCount - 1 ∧
      (t.seqCount = 1 → t.countInSequence.extSfr = .standard ∧ t.countInSequence.extData = .none) ∧
      (t.seqCount ≠ 1 → t.countInSequence.extSfr = t.extSfr ∧ t.countInSequence.extData = t.extData) ∧
      t.countInSequence = { t with
        seqCount := t.countInSequence.seqCount, extSfr := t.countInSequence.extSfr,
        extData := t.countInSequence.extData } := by
  unfold State.countInSequence
  split
  next h => exact ⟨by rw [h], fun h1 => absurd (h.symm.trans h1) (by decide), fun _ => ⟨rfl, rfl⟩, rfl⟩
  next h => exact ⟨by rw [h]; rfl, fun _ => ⟨rfl, rfl⟩, fun h1 => absurd h h1, rfl⟩
  next k h => exact ⟨by rw [h]; rfl, fun h1 => absurd (h.symm.trans h1) (by omega), fun _ => ⟨rfl, rfl⟩, rfl⟩

end Sys2Proof.Machine

namespace Sys2Proof.Proofs

open Sys2Proof.Machine

/-- Settles O39: the step is the instruction's with the counting after it. -/
theorem sequenceCountsInstructions : Obligations.SequenceCountsInstructions := by
  unfold Obligations.SequenceCountsInstructions
  intro s i hr hrun hn hf t ht
  rw [step_instruction hr hrun hn, instructionStep_ok hf, ht]
  refine ⟨_, rfl, ?starter, ?counted⟩
  case starter => exact fun hs => if_pos hs
  case counted =>
    intro hs
    rw [if_neg (by simp [hs])]
    exact countInSequence_spec t

/-- Settles O40: inside a sequence what can be accepted is a class B trap; an instruction keeps the queue or enters a
trap, by what every instruction keeps; and SRST clears it. -/
theorem sequenceLocksRequests : Obligations.SequenceLocksRequests := by
  unfold Obligations.SequenceLocksRequests
  refine ⟨fun s hc => ⟨fun r hn => ?classB, fun hr hrun hb => ?locked⟩, fun s t hf ht => ?keeps, fun s t hf ht => ?reset⟩
  case classB => exact classB_of_acceptable hc (nextRequest_acceptable hn)
  case locked => exact step_instruction hr hrun (nextRequest_none_of_locked hc hb)
  case keeps =>
    rcases instructionStep_next hf ht with kept | ⟨entry, -, queue⟩
    · exact .inl kept.pending
    · exact .inr ⟨entry, queue⟩
  case reset =>
    rw [instructionStep_srst hf] at ht
    cases ht
    rfl

/-- Settles O54: each of the three fetches answers its trap with the state unchanged, and the step raises it. -/
theorem fetchTraps : Obligations.FetchTraps := by
  unfold Obligations.FetchTraps
  intro s hr hrun hn trap h
  have fetched : fetch s = .error (.trap trap s) := by
    rcases h with ⟨odd, rfl⟩ | ⟨even, b0, b1, hf, hu, rfl⟩ | ⟨even, b0, b1, b2, b3, hb, hp, hw, rfl⟩
    · exact fetch_odd odd
    · exact fetch_undecoded even (fetchBytes_undefined hf hu) (decode_undefined hu _ _)
    · exact fetch_undecoded even hb (decode_protectionFault _ hp hw)
  rw [step_instruction hr hrun hn, instructionStep_trap fetched]
  exact ⟨rfl, fun entry => raiseTrap_terminal entry trap s.ip⟩

/-- Settles O56: nothing is served, so the step fetches; the bytes decode, so it executes. -/
theorem stepRunsTheDecodedInstruction : Obligations.StepRunsTheDecodedInstruction := by
  unfold Obligations.StepRunsTheDecodedInstruction
  intro s i bytes rest hr hrun hn even hb hd _
  rw [step_instruction hr hrun hn, instructionStep_ok (fetch_decoded even hb hd)]

end Sys2Proof.Proofs
end

section
/-! PROOFS of the statements about 47_system_control.md and 70_reset_and_hazards.md: reset, power states, watchdog, sequences. -/

namespace Sys2Proof.Machine

/-! ### The instructions, as their equations -/

theorem ipNext_eq (s : State) (length : Nat) : s.ipNext length = s.ip + BitVec.ofNat 16 length := rfl

theorem exec_srst (s : State) : exec .srst s = .next s.doReset := rfl

theorem exec_idle (s : State) : exec .idle s = .next { s with ip := s.ip + 4, runState := .idle } := rfl

theorem exec_pwrdn (s : State) :
    exec .pwrdn s = .next ((if s.nmiLow then { s with runState := .powerDown } else s).goto (s.ip + 4)) := rfl

theorem exec_srvwdt (s : State) :
    exec .srvwdt s = .next { s with ip := s.ip + 4, wdt := s.cfg.wdtPreset ++ 0x00#8, wdtLocked := true } := rfl

theorem exec_diswdt (s : State) :
    exec .diswdt s = .next ((if s.wdtLocked then s else { s with wdtEnabled := false }).goto (s.ip + 4)) := rfl

theorem exec_einit (s : State) :
    exec .einit s = .next { s with ip := s.ip + 4, rstoutLow := false, wdtLocked := true } := rfl

theorem startPage_eq {s : State} (h : bankReady s = true) (m : Nib) (g : BitVec 2) (sfr : SfrRange) :
    startPage s m g sfr = .ok (startSequence s g sfr (.page ((s.gpr m).setWidth 10))) := by
  rw [startPage, readRw_eq h, ok_map]

theorem startSegment_eq {s : State} (h : bankReady s = true) (m : Nib) (g : BitVec 2) (sfr : SfrRange) :
    startSegment s m g sfr = .ok (startSequence s g sfr (.segment ((s.gpr m).setWidth 8))) := by
  rw [startSegment, readRw_eq h, ok_map]
  rfl

/-- A byte above a byte of zeros. -/
theorem append_zero_byte (b : Byte) : (b ++ 0x00#8 : Word) = BitVec.ofNat 16 (b.toNat * 256) := by
  apply BitVec.eq_of_toNat_eq
  rw [BitVec.toNat_append, BitVec.toNat_ofNat, Nat.shiftLeft_eq]
  have := b.isLt
  simp
  omega

/-! ### PSW after a reset: the mask keeps what is no flag and not reserved -/

theorem reset_psw (s : State) : s.doReset.psw = s.cfg.resetState.psw &&& 0xFC60 := rfl

theorem getLsbD_masked (x : Word) (i : Nat) :
    (x &&& 0xFC60).getLsbD i = (x.getLsbD i && (0xFC60 : Word).getLsbD i) := BitVec.getLsbD_and

/-- A field of PSW where the mask is all ones is the reset value's. -/
theorem extract_masked_ones (x : Word) (start width : Nat)
    (h : ∀ i < width, (0xFC60 : Word).getLsbD (start + i) = true) :
    (x &&& 0xFC60).extractLsb' start width = x.extractLsb' start width := by
  apply BitVec.eq_of_getLsbD_eq
  intro i hi
  rw [BitVec.getLsbD_extractLsb', BitVec.getLsbD_extractLsb', getLsbD_masked, h i hi, Bool.and_true]

/-- A field of PSW where the mask is all zeros is 0. -/
theorem extract_masked_zeros (x : Word) (start width : Nat)
    (h : ∀ i < width, (0xFC60 : Word).getLsbD (start + i) = false) :
    (x &&& 0xFC60).extractLsb' start width = 0 := by
  apply BitVec.eq_of_getLsbD_eq
  intro i hi
  rw [BitVec.getLsbD_extractLsb', getLsbD_masked, h i hi, Bool.and_false, Bool.and_false]
  exact BitVec.getLsbD_zero.symm

theorem flags_masked (x : Word) : flagsOfPsw (x &&& 0xFC60) = ⟨false, false, false, false, false⟩ := by
  have clear : ∀ i : Fin 5, (0xFC60 : Word).getLsbD i = false := by decide
  have bit : ∀ i : Fin 5, (x &&& 0xFC60).getLsbD i = false := fun i => by rw [getLsbD_masked, clear i, Bool.and_false]
  simp only [flagsOfPsw, Flags.mk.injEq]
  exact ⟨bit 4, bit 3, bit 2, bit 1, bit 0⟩

/-! ### Resets and power states -/

theorem step_reset {s : State} (h : resetRequested s = true) : step s = .next s.doReset := by
  simp [step, cycle, h]

theorem step_idle {s : State} (hr : resetRequested s = false) (h : s.runState = .idle) : step s = idleStep s := by
  simp [step, cycle, hr, h]

theorem step_powerDown {s : State} (hr : resetRequested s = false) (h : s.runState = .powerDown) :
    step s = .fault .poweredDown := by
  simp [step, cycle, hr, h]

theorem isClassB_iff {r : Request} : r.isClassB = true ↔ ∃ trap, r = .classB trap := by
  cases r <;> simp [Request.isClassB]

/-- Idle is left for any request but a class B trap that waits (log 20). -/
theorem idleStep_asleep {s : State} (h : ∀ r ∈ s.pending, ∃ trap, r = .classB trap) :
    idleStep s = .fault .idleWithoutRequest := by
  have none : s.withoutClassB.pending = [] := by
    rw [withoutClassB_pending, List.filter_eq_nil_iff]
    intro r hr
    rw [isClassB_iff.2 (h r hr)]
    decide
  rw [idleStep, none]
  rfl

theorem idleStep_woken {s : State} {r : Request} (hr : r ∈ s.pending) (h : ∀ trap, r ≠ .classB trap) :
    idleStep s = .next { s with runState := .running } := by
  have outside : r.isClassB = false := by
    rw [← Bool.not_eq_true, isClassB_iff]
    rintro ⟨trap, hb⟩
    exact h trap hb
  have waits : r ∈ s.withoutClassB.pending := by
    rw [withoutClassB_pending, List.mem_filter, outside]
    exact ⟨hr, rfl⟩
  have nonempty : s.withoutClassB.pending.isEmpty = false := by
    rw [← Bool.not_eq_true, List.isEmpty_iff]
    exact List.ne_nil_of_mem waits
  rw [idleStep, nonempty]
  rfl

end Sys2Proof.Machine

namespace Sys2Proof.Proofs

open Sys2Proof.Machine

/-- Settles O34: SRST is the record of reset values; PSW is the reset value under the mask. -/
theorem softwareReset : Obligations.SoftwareReset := by
  unfold Obligations.SoftwareReset
  intro s
  refine ⟨_, exec_srst s, flags_masked _, rfl, rfl, rfl, rfl, rfl, rfl, rfl, rfl, rfl, rfl, rfl, rfl, rfl, rfl, rfl, rfl,
    rfl, rfl, rfl, rfl, rfl, rfl, rfl, rfl, ?high, ?reserved, ?middle, ?low, ?level, ?enable, rfl, rfl, rfl, rfl, rfl, rfl⟩
  case high => exact extract_masked_ones _ 10 6 (by decide)
  case reserved => exact extract_masked_zeros _ 7 3 (by decide)
  case middle => exact extract_masked_ones _ 5 2 (by decide)
  case low => exact extract_masked_zeros _ 0 5 (by decide)
  case level => exact extract_masked_ones _ 12 4 (by decide)
  case enable =>
    have kept : (0xFC60 : Word).getLsbD 11 = true := by decide
    exact (getLsbD_masked _ _).trans (by rw [kept, Bool.and_true])

/-- Settles O35: the reset state is a fixed record, and each of its sixteen GPRs reads memory that nothing was written to. -/
theorem resetState : Obligations.ResetState := by
  unfold Obligations.ResetState
  have gprs : ∀ n, State.reset.gpr n = 0 := by decide
  exact ⟨rfl, rfl, rfl, rfl, rfl, rfl, rfl, rfl, rfl, rfl, rfl, rfl, rfl, rfl, rfl, rfl, rfl, rfl, rfl, rfl, rfl, rfl,
    rfl, rfl, rfl, rfl, rfl, rfl, rfl, rfl, gprs, rfl, rfl⟩

/-- Settles O36: IDLE and PWRDN are record updates; a step in Idle looks for a request that is no class B trap, and one in
PowerDown for the external reset only. -/
theorem idleAndPowerDown : Obligations.IdleAndPowerDown := by
  unfold Obligations.IdleAndPowerDown
  refine ⟨exec_idle, fun s => ?pwrdn, fun s hi hp hr => ?asleep, fun s r hi hp hb hr => ?woken, fun s hp hx => ?off⟩
  case pwrdn =>
    rw [exec_pwrdn]
    split <;> rfl
  case asleep => rw [step_idle hr hi, idleStep_asleep hp]
  case woken => rw [step_idle hr hi, idleStep_woken hp hb]
  case off => exact step_powerDown (by simp [resetRequested, hx, hp]) hp

/-- Settles O37: each instruction is a record update; the reloaded counter is the preset byte above a byte of zeros. -/
theorem watchdogAndInitialisation : Obligations.WatchdogAndInitialisation := by
  unfold Obligations.WatchdogAndInitialisation
  refine fun s => ⟨?srvwdt, fun h => ?unlocked, fun h => ?locked, exec_einit s⟩
  case srvwdt => rw [exec_srvwdt, append_zero_byte]
  case unlocked =>
    rw [exec_diswdt, if_neg (by simp [h])]
    rfl
  case locked =>
    rw [exec_diswdt, if_pos h]
    rfl

/-- Settles O38: every starter is the start of a sequence with its own mode; four of them read a GPR first. -/
theorem sequenceStarters : Obligations.SequenceStarters := by
  unfold Obligations.SequenceStarters
  rintro s g started rfl
  refine ⟨rfl, rfl, fun m h => ?extp, fun p => rfl, fun m h => ?extpr, fun p => rfl, fun m h => ?exts, fun seg => rfl,
    fun m h => ?extsr, fun seg => rfl⟩
  case extp => exact congrArg (complete 2 s) (startPage_eq h m g .standard)
  case extpr => exact congrArg (complete 2 s) (startPage_eq h m g .extended)
  case exts => exact congrArg (complete 2 s) (startSegment_eq h m g .standard)
  case extsr => exact congrArg (complete 2 s) (startSegment_eq h m g .extended)

/-- Settles O52: a reset request is SRST's reset; without one a running machine takes a running step. -/
theorem resetRequests : Obligations.ResetRequests := by
  unfold Obligations.ResetRequests
  refine fun s => ⟨fun h => ?requested, fun hx hw hrun => step_running (by simp [resetRequested, hx, hw]) hrun⟩
  rw [exec_srst]
  refine step_reset ?_
  rcases h with hx | ⟨ho, he, hp⟩
  · simp [resetRequested, hx]
  · simp [resetRequested, ho, he, hp]

/-- Settles O57: each word is decoded by evaluation. -/
theorem wordsDecodeAsEncoded : Obligations.WordsDecodeAsEncoded := by
  unfold Obligations.WordsDecodeAsEncoded
  exact ⟨rfl, rfl, rfl, rfl, rfl, rfl, rfl, rfl, rfl, rfl, rfl, rfl, rfl, rfl⟩

end Sys2Proof.Proofs
end

section
/-! PROOFS of the statements about 40_arithmetic.md section 1 and 41_logical.md: the instructions with two operands, in
their seven forms (R218), and the comparisons (42_bit_and_compare.md R262, R263). -/

namespace Sys2Proof.Machine

/-! ### An instruction that is a two-operand template, form by form -/

/-- The seven instructions are the word template at `op`. -/
structure IsAluW (op : AluOp) (rwRw : Nib → Nib → Instr) (rwInd rwIndInc : Nib → BitVec 2 → Instr)
    (rwData3 : Nib → BitVec 3 → Instr) (regData16 regMem : Byte → Word → Instr) (memReg : Word → Byte → Instr) :
    Prop where
  rwRw : ∀ s n m, exec (rwRw n m) s = complete 2 s (aluW op s.flags (fromRw s m) (rwAddress · n))
  rwInd : ∀ s n i, exec (rwInd n i) s = complete 2 s (aluW op s.flags (readIndW s (pointerOf i)) (rwAddress · n))
  rwIndInc : ∀ s n i, exec (rwIndInc n i) s = complete 2 s (aluRwIndInc op s n i)
  rwData3 : ∀ s n d, exec (rwData3 n d) s = complete 2 s (aluW op s.flags (fromConst 16 s d) (rwAddress · n))
  regData16 : ∀ s reg d,
    exec (regData16 reg d) s = complete 4 s (aluW op s.flags (fromConst 16 s d) (regAddressW · reg))
  regMem : ∀ s reg mem, exec (regMem reg mem) s = complete 4 s (aluW op s.flags (fromMemW s mem) (regAddressW · reg))
  memReg : ∀ s mem reg, exec (memReg mem reg) s = complete 4 s (aluW op s.flags (fromRegW s reg) (memAddress · mem))

/-- The seven instructions are the byte template at `op`, which the configuration may select (log 11). -/
structure IsAluB (op : State → AluOp) (rbRb : Nib → Nib → Instr) (rbInd rbIndInc : Nib → BitVec 2 → Instr)
    (rbData3 : Nib → BitVec 3 → Instr) (regData8 : Byte → Byte → Instr) (regMem : Byte → Word → Instr)
    (memReg : Word → Byte → Instr) : Prop where
  rbRb : ∀ s n m, exec (rbRb n m) s = complete 2 s (aluB (op s) s.flags (fromRb s m) (rbAddress · n))
  rbInd : ∀ s n i, exec (rbInd n i) s = complete 2 s (aluB (op s) s.flags (readIndB s (pointerOf i)) (rbAddress · n))
  rbIndInc : ∀ s n i, exec (rbIndInc n i) s = complete 2 s (aluRbIndInc (op s) s n i)
  rbData3 : ∀ s n d, exec (rbData3 n d) s = complete 2 s (aluB (op s) s.flags (fromConst 8 s d) (rbAddress · n))
  regData8 : ∀ s reg d,
    exec (regData8 reg d) s = complete 4 s (aluB (op s) s.flags (fromConst 8 s d) (regAddressB · reg))
  regMem : ∀ s reg mem,
    exec (regMem reg mem) s = complete 4 s (aluB (op s) s.flags (fromMemB s mem) (regAddressB · reg))
  memReg : ∀ s mem reg,
    exec (memReg mem reg) s = complete 4 s (aluB (op s) s.flags (fromRegB s reg) (memAddress · mem))

theorem isAluW_add : IsAluW .add .addRwRw .addRwInd .addRwIndInc .addRwData3 .addRegData16 .addRegMem .addMemReg :=
  ⟨fun _ _ _ => rfl, fun _ _ _ => rfl, fun _ _ _ => rfl, fun _ _ _ => rfl, fun _ _ _ => rfl, fun _ _ _ => rfl,
    fun _ _ _ => rfl⟩

theorem isAluW_addc :
    IsAluW .addc .addcRwRw .addcRwInd .addcRwIndInc .addcRwData3 .addcRegData16 .addcRegMem .addcMemReg :=
  ⟨fun _ _ _ => rfl, fun _ _ _ => rfl, fun _ _ _ => rfl, fun _ _ _ => rfl, fun _ _ _ => rfl, fun _ _ _ => rfl,
    fun _ _ _ => rfl⟩

theorem isAluW_sub : IsAluW .sub .subRwRw .subRwInd .subRwIndInc .subRwData3 .subRegData16 .subRegMem .subMemReg :=
  ⟨fun _ _ _ => rfl, fun _ _ _ => rfl, fun _ _ _ => rfl, fun _ _ _ => rfl, fun _ _ _ => rfl, fun _ _ _ => rfl,
    fun _ _ _ => rfl⟩

theorem isAluW_subc :
    IsAluW .subc .subcRwRw .subcRwInd .subcRwIndInc .subcRwData3 .subcRegData16 .subcRegMem .subcMemReg :=
  ⟨fun _ _ _ => rfl, fun _ _ _ => rfl, fun _ _ _ => rfl, fun _ _ _ => rfl, fun _ _ _ => rfl, fun _ _ _ => rfl,
    fun _ _ _ => rfl⟩

theorem isAluW_and : IsAluW .and .andRwRw .andRwInd .andRwIndInc .andRwData3 .andRegData16 .andRegMem .andMemReg :=
  ⟨fun _ _ _ => rfl, fun _ _ _ => rfl, fun _ _ _ => rfl, fun _ _ _ => rfl, fun _ _ _ => rfl, fun _ _ _ => rfl,
    fun _ _ _ => rfl⟩

theorem isAluW_or : IsAluW .or .orRwRw .orRwInd .orRwIndInc .orRwData3 .orRegData16 .orRegMem .orMemReg :=
  ⟨fun _ _ _ => rfl, fun _ _ _ => rfl, fun _ _ _ => rfl, fun _ _ _ => rfl, fun _ _ _ => rfl, fun _ _ _ => rfl,
    fun _ _ _ => rfl⟩

theorem isAluW_xor : IsAluW .xor .xorRwRw .xorRwInd .xorRwIndInc .xorRwData3 .xorRegData16 .xorRegMem .xorMemReg :=
  ⟨fun _ _ _ => rfl, fun _ _ _ => rfl, fun _ _ _ => rfl, fun _ _ _ => rfl, fun _ _ _ => rfl, fun _ _ _ => rfl,
    fun _ _ _ => rfl⟩

theorem isAluB_add : IsAluB (fun _ => .add) .addbRbRb .addbRbInd .addbRbIndInc .addbRbData3 .addbRegData8 .addbRegMem
    .addbMemReg :=
  ⟨fun _ _ _ => rfl, fun _ _ _ => rfl, fun _ _ _ => rfl, fun _ _ _ => rfl, fun _ _ _ => rfl, fun _ _ _ => rfl,
    fun _ _ _ => rfl⟩

theorem isAluB_addc : IsAluB (fun _ => .addc) .addcbRbRb .addcbRbInd .addcbRbIndInc .addcbRbData3 .addcbRegData8
    .addcbRegMem .addcbMemReg :=
  ⟨fun _ _ _ => rfl, fun _ _ _ => rfl, fun _ _ _ => rfl, fun _ _ _ => rfl, fun _ _ _ => rfl, fun _ _ _ => rfl,
    fun _ _ _ => rfl⟩

theorem isAluB_sub : IsAluB (fun _ => .sub) .subbRbRb .subbRbInd .subbRbIndInc .subbRbData3 .subbRegData8 .subbRegMem
    .subbMemReg :=
  ⟨fun _ _ _ => rfl, fun _ _ _ => rfl, fun _ _ _ => rfl, fun _ _ _ => rfl, fun _ _ _ => rfl, fun _ _ _ => rfl,
    fun _ _ _ => rfl⟩

theorem isAluB_subc : IsAluB subcbOp .subcbRbRb .subcbRbInd .subcbRbIndInc .subcbRbData3 .subcbRegData8 .subcbRegMem
    .subcbMemReg :=
  ⟨fun _ _ _ => rfl, fun _ _ _ => rfl, fun _ _ _ => rfl, fun _ _ _ => rfl, fun _ _ _ => rfl, fun _ _ _ => rfl,
    fun _ _ _ => rfl⟩

theorem isAluB_and : IsAluB (fun _ => .and) .andbRbRb .andbRbInd .andbRbIndInc .andbRbData3 .andbRegData8 .andbRegMem
    .andbMemReg :=
  ⟨fun _ _ _ => rfl, fun _ _ _ => rfl, fun _ _ _ => rfl, fun _ _ _ => rfl, fun _ _ _ => rfl, fun _ _ _ => rfl,
    fun _ _ _ => rfl⟩

theorem isAluB_or : IsAluB (fun _ => .or) .orbRbRb .orbRbInd .orbRbIndInc .orbRbData3 .orbRegData8 .orbRegMem
    .orbMemReg :=
  ⟨fun _ _ _ => rfl, fun _ _ _ => rfl, fun _ _ _ => rfl, fun _ _ _ => rfl, fun _ _ _ => rfl, fun _ _ _ => rfl,
    fun _ _ _ => rfl⟩

theorem isAluB_xor : IsAluB (fun _ => .xor) .xorbRbRb .xorbRbInd .xorbRbIndInc .xorbRbData3 .xorbRegData8 .xorbRegMem
    .xorbMemReg :=
  ⟨fun _ _ _ => rfl, fun _ _ _ => rfl, fun _ _ _ => rfl, fun _ _ _ => rfl, fun _ _ _ => rfl, fun _ _ _ => rfl,
    fun _ _ _ => rfl⟩

/-! ### The templates complete -/

section Templates

variable {s u : State} {pa length : Nat} (hip : u.ip = s.ip)
include hip

/-- A word result written in a state with the same IP is completed as one of that state. -/
theorem completes_word (r : Flagged 16) :
    Completes (complete length s (.ok ((u.putWord pa r.val).setFlagsFor pa r.flags)))
      (fun t => WordResult u t pa r length) := by
  rw [complete_ok, ipNext_eq, ← hip, ← ipNext_eq]
  exact ⟨_, rfl, wordResult _ _ _ _⟩

theorem completes_byte (r : Flagged 8) :
    Completes (complete length s (.ok ((u.putByte pa r.val).setFlagsFor pa r.flags)))
      (fun t => ByteResult u t pa r length) := by
  rw [complete_ok, ipNext_eq, ← hip, ← ipNext_eq]
  exact ⟨_, rfl, byteResult _ _ _ _⟩

theorem completes_flags (f : Flags) :
    Completes (complete length s (.ok (u.setFlags f))) (fun t => FlagResult u t f length) := by
  rw [complete_ok, ipNext_eq, ← hip, ← ipNext_eq]
  exact ⟨_, rfl, flagResult _ _ _⟩

theorem aluW_completes {op : AluOp} {before : Flags} {source : Res (Word × State)} {address : State → Res Nat} {a b : Word}
    {r : Flagged 16} (hs : source = .ok (b, u)) (ha : address u = .ok pa) (hr : canReadW u pa = true)
    (hv : u.wordAt pa = a) (he : op.eval before a b = r) (hw : canWriteW u pa r.val = true) :
    Completes (complete length s (aluW op before source address)) (fun t => WordResult u t pa r length) := by
  subst hv he
  rw [aluW_eq hs ha hr hw]
  exact completes_word hip _

theorem aluB_completes {op : AluOp} {before : Flags} {source : Res (Byte × State)} {address : State → Res Nat} {a b : Byte}
    {r : Flagged 8} (hs : source = .ok (b, u)) (ha : address u = .ok pa) (hr : canReadB u pa = true)
    (hv : u.byteAt pa = a) (he : op.eval before a b = r) (hw : canWriteB u pa r.val = true) :
    Completes (complete length s (aluB op before source address)) (fun t => ByteResult u t pa r length) := by
  subst hv he
  rw [aluB_eq hs ha hr hw]
  exact completes_byte hip _

theorem compareW_completes {source : Res (Word × State)} {address : State → Res Nat} {a b : Word}
    (hs : source = .ok (b, u)) (ha : address u = .ok pa) (hr : canReadW u pa = true) (hv : u.wordAt pa = a) :
    Completes (complete length s (compareW source address))
      (fun t => FlagResult u t (differenceResult a b false (fun r => decide (r = 0))).flags length) := by
  subst hv
  rw [compareW_eq hs ha hr, compareFlags_word]
  exact completes_flags hip _

theorem compareB_completes {source : Res (Byte × State)} {address : State → Res Nat} {a b : Byte}
    (hs : source = .ok (b, u)) (ha : address u = .ok pa) (hr : canReadB u pa = true) (hv : u.byteAt pa = a) :
    Completes (complete length s (compareB source address))
      (fun t => FlagResult u t (differenceResult a b false (fun r => decide (r = 0))).flags length) := by
  subst hv
  rw [compareB_eq hs ha hr, compareFlags_byte]
  exact completes_flags hip _

end Templates

/-! ### `[Rwi+]` with two GPRs -/

theorem aluRwIndInc_other {s : State} {n : Nib} {i : BitVec 2} (h : pointerOf i ≠ n) (op : AluOp) :
    aluRwIndInc op s n i = aluW op s.flags (readIndIncW s (pointerOf i)) (rwAddress · n) := by
  rw [aluRwIndInc, if_neg h]

theorem aluRbIndInc_other {s : State} {n : Nib} {i : BitVec 2} (h : pointerOf i ≠ wordOfByteGpr n) (op : AluOp) :
    aluRbIndInc op s n i = aluB op s.flags (readIndIncB s (pointerOf i)) (rbAddress · n) := by
  rw [aluRbIndInc, if_neg h]

theorem compareRwIndInc_other {s : State} {n : Nib} {i : BitVec 2} (h : pointerOf i ≠ n) :
    compareRwIndInc s n i = compareW (readIndIncW s (pointerOf i)) (rwAddress · n) := by
  rw [compareRwIndInc, if_neg h]

theorem compareRbIndInc_other {s : State} {n : Nib} {i : BitVec 2} (h : pointerOf i ≠ wordOfByteGpr n) :
    compareRbIndInc s n i = compareB (readIndIncB s (pointerOf i)) (rbAddress · n) := by
  rw [compareRbIndInc, if_neg h]

/-! ### The seven forms of a template -/

theorem rwAddress_bank {s : State} (h : bankReady s = true) (n : Nib) : rwAddress s n = .ok (s.gprAddress n) :=
  rwAddress_eq (cpLegal_of_bank h) n

theorem rbAddress_bank {s : State} (h : bankReady s = true) (k : Nib) : rbAddress s k = .ok (s.gprByteAddress k) :=
  rbAddress_eq (cpLegal_of_bank h) k

/-- A constant of the operation's own width. -/
theorem fromConst_same {w : Nat} (s : State) (c : BitVec w) : fromConst w s c = .ok (c, s) := by
  rw [fromConst_eq, BitVec.setWidth_eq]

/-- The word template at an operation whose results are `f`'s completes in all seven forms. -/
theorem IsAluW.forms {op : AluOp} {rwRw : Nib → Nib → Instr} {rwInd rwIndInc : Nib → BitVec 2 → Instr}
    {rwData3 : Nib → BitVec 3 → Instr} {regData16 regMem : Byte → Word → Instr} {memReg : Word → Byte → Instr}
    (i : IsAluW op rwRw rwInd rwIndInc rwData3 regData16 regMem memReg) {f : Flags → Word → Word → Flagged 16}
    (hf : ∀ before a b, op.eval before a b = f before a b) :
    WordForms f rwRw rwInd rwIndInc rwData3 regData16 regMem memReg := by
  refine ⟨fun s n m h => ?rwRw, fun s n p h pa hpa hr ho => ?rwInd, fun s n p h hne la hla pa hpa hr ho => ?rwIndInc,
    fun s n d h => ?rwData3, fun s reg d h r hres hr hw => ?regData16, fun s reg mem h hm hr r hres hw => ?regMem,
    fun s mem reg h hm hr r hres hw => ?memReg⟩
  case rwRw =>
    rw [i.rwRw]
    exact aluW_completes rfl (fromRw_eq h m) (rwAddress_bank h n) (canReadW_gpr h n) rfl (hf _ _ _) (canWriteW_gpr h n _)
  case rwInd =>
    subst hpa
    rw [i.rwInd]
    exact aluW_completes rfl (readIndW_eq h hr ho) (rwAddress_bank h n) (canReadW_gpr h n) rfl (hf _ _ _)
      (canWriteW_gpr h n _)
  case rwIndInc =>
    subst hpa hla
    rw [i.rwIndInc, aluRwIndInc_other hne]
    exact aluW_completes rfl (readIndIncW_eq h hr ho) (rwAddress_bank h n) (canReadW_gpr h n)
      (gpr_storeWord_other h hne.symm _) (hf _ _ _) (canWriteW_gpr h n _)
  case rwData3 =>
    rw [i.rwData3]
    exact aluW_completes rfl (fromConst_eq 16 s d) (rwAddress_bank h n) (canReadW_gpr h n) rfl (hf _ _ _)
      (canWriteW_gpr h n _)
  case regData16 =>
    rw [i.regData16]
    exact aluW_completes rfl (fromConst_same s d) (regAddressW_eq h) hr rfl ((hf _ _ _).trans hres.symm) hw
  case regMem =>
    rw [i.regMem]
    exact aluW_completes rfl (fromMemW_eq hm) (regAddressW_eq h) hr rfl ((hf _ _ _).trans hres.symm) hw
  case memReg =>
    rw [i.memReg]
    exact aluW_completes rfl (fromRegW_eq h hr) rfl hm rfl ((hf _ _ _).trans hres.symm) hw

/-- The byte template at an operation whose results are `f`'s completes in all seven forms. -/
theorem IsAluB.forms {op : State → AluOp} {rbRb : Nib → Nib → Instr} {rbInd rbIndInc : Nib → BitVec 2 → Instr}
    {rbData3 : Nib → BitVec 3 → Instr} {regData8 : Byte → Byte → Instr} {regMem : Byte → Word → Instr}
    {memReg : Word → Byte → Instr} (i : IsAluB op rbRb rbInd rbIndInc rbData3 regData8 regMem memReg)
    {f : State → Flags → Byte → Byte → Flagged 8} (hf : ∀ s before a b, (op s).eval before a b = f s before a b) :
    ByteForms f rbRb rbInd rbIndInc rbData3 regData8 regMem memReg := by
  refine ⟨fun s n m h => ?rbRb, fun s n p h pa hpa hr ho => ?rbInd, fun s n p h hne la hla pa hpa hr ho => ?rbIndInc,
    fun s n d h => ?rbData3, fun s reg d h r hres hr hw => ?regData8, fun s reg mem h hm hr r hres hw => ?regMem,
    fun s mem reg h hm hr r hres hw => ?memReg⟩
  case rbRb =>
    rw [i.rbRb]
    exact aluB_completes rfl (fromRb_eq h m) (rbAddress_bank h n) (canReadB_gpr h n) rfl (hf _ _ _ _)
      (canWriteB_gpr h n _)
  case rbInd =>
    subst hpa
    rw [i.rbInd]
    exact aluB_completes rfl (readIndB_eq h hr ho) (rbAddress_bank h n) (canReadB_gpr h n) rfl (hf _ _ _ _)
      (canWriteB_gpr h n _)
  case rbIndInc =>
    subst hpa hla
    rw [i.rbIndInc, aluRbIndInc_other hne]
    exact aluB_completes rfl (readIndIncB_eq h hr ho) (rbAddress_bank h n) (canReadB_gpr h n)
      (gprByte_storeWord_other h hne _) (hf _ _ _ _) (canWriteB_gpr h n _)
  case rbData3 =>
    rw [i.rbData3]
    exact aluB_completes rfl (fromConst_eq 8 s d) (rbAddress_bank h n) (canReadB_gpr h n) rfl (hf _ _ _ _)
      (canWriteB_gpr h n _)
  case regData8 =>
    rw [i.regData8]
    exact aluB_completes rfl (fromConst_same s d) (regAddressB_eq h) hr rfl ((hf _ _ _ _).trans hres.symm) hw
  case regMem =>
    rw [i.regMem]
    exact aluB_completes rfl (fromMemB_eq hm) (regAddressB_eq h) hr rfl ((hf _ _ _ _).trans hres.symm) hw
  case memReg =>
    rw [i.memReg]
    exact aluB_completes rfl (fromRegB_eq h hr) rfl hm rfl ((hf _ _ _ _).trans hres.symm) hw

/-! ### The comparisons whose template is not on the surface -/

theorem exec_cmpRwIndInc (s : State) (n : Nib) (i : BitVec 2) :
    exec (.cmpRwIndInc n i) s = complete 2 s (compareRwIndInc s n i) := rfl

theorem exec_cmpbRbIndInc (s : State) (n : Nib) (i : BitVec 2) :
    exec (.cmpbRbIndInc n i) s = complete 2 s (compareRbIndInc s n i) := rfl

theorem exec_cmpRegData16 (s : State) (reg : Byte) (d : Word) :
    exec (.cmpRegData16 reg d) s = complete 4 s (compareW (fromConst 16 s d) (regAddressW · reg)) := rfl

theorem exec_cmpbRegData8 (s : State) (reg d : Byte) :
    exec (.cmpbRegData8 reg d) s = complete 4 s (compareB (fromConst 8 s d) (regAddressB · reg)) := rfl

/-- SUBCB chains Z or not, as the configuration says (log 11). -/
theorem subcbOp_eval (s : State) (before : Flags) (a b : Byte) :
    (subcbOp s).eval before a b =
      differenceResult a b before.c (fun r => decide (r = 0) && (before.z || !s.cfg.subcbZChained)) := by
  cases hz : s.cfg.subcbZChained with
  | true =>
    simp only [subcbOp, hz, Bool.not_true, Bool.or_false, if_true]
    exact subFlaggedChained_byte a b _ _
  | false =>
    simp only [subcbOp, hz, Bool.not_false, Bool.or_true, Bool.and_true]
    exact subFlagged_byte a b _

end Sys2Proof.Machine

namespace Sys2Proof.Proofs

open Sys2Proof.Machine

/-- Settles O1: the four instructions are the templates at ADD and ADDC, whose exact sums have the flags in their bit
forms. -/
theorem additionForms : Obligations.AdditionForms := by
  unfold Obligations.AdditionForms
  exact ⟨isAluW_add.forms fun _ a b => addFlagged_word a b false,
    isAluB_add.forms fun _ _ a b => addFlagged_byte a b false,
    isAluW_addc.forms fun before a b => addFlaggedChained_word a b before.c before.z,
    isAluB_addc.forms fun _ before a b => addFlaggedChained_byte a b before.c before.z⟩

/-- Settles O2: the four instructions are the templates at SUB and SUBC; SUBCB's operation is the one the configuration
selects. -/
theorem subtractionForms : Obligations.SubtractionForms := by
  unfold Obligations.SubtractionForms
  exact ⟨isAluW_sub.forms fun _ a b => subFlagged_word a b false,
    isAluB_sub.forms fun _ _ a b => subFlagged_byte a b false,
    isAluW_subc.forms fun before a b => subFlaggedChained_word a b before.c before.z,
    isAluB_subc.forms subcbOp_eval⟩

/-- Settles O3: the six instructions are the templates at the three bitwise operations. -/
theorem logicForms : Obligations.LogicForms := by
  unfold Obligations.LogicForms
  exact ⟨isAluW_and.forms fun _ _ _ => logicFlagged_word _ _, isAluB_and.forms fun _ _ _ _ => logicFlagged_byte _ _,
    isAluW_or.forms fun _ _ _ => logicFlagged_word _ _, isAluB_or.forms fun _ _ _ _ => logicFlagged_byte _ _,
    isAluW_xor.forms fun _ _ _ => logicFlagged_word _ _, isAluB_xor.forms fun _ _ _ _ => logicFlagged_byte _ _⟩

/-- Settles O4: each form is the comparison template on its two operands; `[Rwi+]` compares in the state in which the
pointer was moved. -/
theorem compareForms : Obligations.CompareForms := by
  unfold Obligations.CompareForms
  refine ⟨fun s n m h => ?rwRw, fun s n i h pa hpa hr ho => ?rwInd, fun s n i h hne la hla pa hpa hr ho => ?rwIndInc,
    fun s n d h => ?rwData3, fun s reg d h hr => ?regData16, fun s reg mem h hm hr => ?regMem, fun s n m h => ?rbRb,
    fun s n i h pa hpa hr ho => ?rbInd, fun s n i h hne la hla pa hpa hr ho => ?rbIndInc, fun s n d h => ?rbData3,
    fun s reg d h hr => ?regData8, fun s reg mem h hm hr => ?byteRegMem⟩
  case rwRw => exact compareW_completes rfl (fromRw_eq h m) (rwAddress_bank h n) (canReadW_gpr h n) rfl
  case rwInd =>
    subst hpa
    exact compareW_completes rfl (readIndW_eq h hr ho) (rwAddress_bank h n) (canReadW_gpr h n) rfl
  case rwIndInc =>
    subst hpa hla
    rw [exec_cmpRwIndInc, compareRwIndInc_other hne]
    exact compareW_completes rfl (readIndIncW_eq h hr ho) (rwAddress_bank h n) (canReadW_gpr h n)
      (gpr_storeWord_other h hne.symm _)
  case rwData3 => exact compareW_completes rfl (fromConst_eq 16 s d) (rwAddress_bank h n) (canReadW_gpr h n) rfl
  case regData16 =>
    rw [exec_cmpRegData16]
    exact compareW_completes rfl (fromConst_same s d) (regAddressW_eq h) hr rfl
  case regMem => exact compareW_completes rfl (fromMemW_eq hm) (regAddressW_eq h) hr rfl
  case rbRb => exact compareB_completes rfl (fromRb_eq h m) (rbAddress_bank h n) (canReadB_gpr h n) rfl
  case rbInd =>
    subst hpa
    exact compareB_completes rfl (readIndB_eq h hr ho) (rbAddress_bank h n) (canReadB_gpr h n) rfl
  case rbIndInc =>
    subst hpa hla
    rw [exec_cmpbRbIndInc, compareRbIndInc_other hne]
    exact compareB_completes rfl (readIndIncB_eq h hr ho) (rbAddress_bank h n) (canReadB_gpr h n)
      (gprByte_storeWord_other h hne _)
  case rbData3 => exact compareB_completes rfl (fromConst_eq 8 s d) (rbAddress_bank h n) (canReadB_gpr h n) rfl
  case regData8 =>
    rw [exec_cmpbRegData8]
    exact compareB_completes rfl (fromConst_same s d) (regAddressB_eq h) hr rfl
  case byteRegMem => exact compareB_completes rfl (fromMemB_eq hm) (regAddressB_eq h) hr rfl

end Sys2Proof.Proofs
end

section
/-! PROOFS of the statements about 40_arithmetic.md section 4: multiplication and division (R208 to R213, R220). -/

namespace Sys2Proof.Machine

theorem Completes.mono {o : Host.Outcome State Fault Refusal} {P Q : State → Prop} (h : Completes o P)
    (hpq : ∀ t, P t → Q t) : Completes o Q := by
  obtain ⟨t, ht, hp⟩ := h
  exact ⟨t, ht, hpq t hp⟩

/-! ### Signed words -/

theorem outOfRange_word (x : Int) : outOfRange 16 x = decide (x < -32768 ∨ 32767 < x) := by
  have bound : ((2 ^ (16 - 1) : Nat) : Int) = 32768 := rfl
  rw [outOfRange, bound, ← Bool.decide_or, decide_eq_decide]
  omega

theorem toInt_word_bounds (v : Word) : -32768 ≤ v.toInt ∧ v.toInt ≤ 32767 := by
  have low : -2 ^ (16 - 1) ≤ v.toInt := BitVec.le_toInt v
  have high : v.toInt < 2 ^ (16 - 1) := BitVec.toInt_lt
  omega

theorem toInt_ofInt_word {x : Int} (h : -32768 ≤ x) (h' : x ≤ 32767) : (BitVec.ofInt 16 x).toInt = x :=
  BitVec.toInt_ofInt_eq_self (by decide) (by omega) (by omega)

/-- The product of two signed words fits 32 bits. -/
theorem toInt_product (a b : Word) : (BitVec.ofInt 32 (a.toInt * b.toInt)).toInt = a.toInt * b.toInt := by
  have low : -2 ^ (16 * 2 - 2) ≤ a.toInt * b.toInt := BitVec.le_toInt_mul_toInt
  have high : a.toInt * b.toInt ≤ 2 ^ (16 * 2 - 2) := BitVec.toInt_mul_toInt_le
  exact BitVec.toInt_ofInt_eq_self (by decide) (by omega) (by omega)

/-- The product of two unsigned words fits 32 bits. -/
theorem toNat_product (a b : Word) : (BitVec.ofNat 32 (a.toNat * b.toNat)).toNat = a.toNat * b.toNat := by
  have bound : a.toNat * b.toNat < 2 ^ 16 * 2 ^ 16 := Nat.mul_lt_mul'' a.isLt b.isLt
  rw [BitVec.toNat_ofNat]
  exact Nat.mod_eq_of_lt bound

/-! ### MD -/

theorem md_toNat (s : State) : s.md.toNat = s.mdh.toNat * 65536 + s.mdl.toNat := by
  rw [State.md, BitVec.toNat_append, ← Nat.shiftLeft_add_eq_or_of_lt s.mdl.isLt, Nat.shiftLeft_eq]

/-- What multiplications and divisions leave: MD, the flags, IP, and possibly free values drawn. -/
structure MdResult (s t : State) (low high : Word) (f : Flags) : Prop where
  mdl : t.mdl = low
  mdh : t.mdh = high
  flags : t.flags = f
  system : SameSystemBits s t
  frame : t = { s with ip := s.ipNext 2, psw := t.psw, mdl := t.mdl, mdh := t.mdh, freeCount := t.freeCount }

theorem mdResult (s : State) (low high : Word) (f : Flags) (free : Nat) :
    MdResult s (({ s with mdl := low, mdh := high, freeCount := free }.setFlags f).goto (s.ipNext 2)) low high f where
  mdl := rfl
  mdh := rfl
  flags := flagsOfPsw_pswWithFlags _ _
  system := system_pswWithFlags _ _
  frame := rfl

/-! ### Multiplication -/

/-- The multiplication template on a bank in memory. -/
theorem multiply_completes {s : State} (h : bankReady s = true) (f : Word → Word → ProductFlagged) (n m : Nib) :
    Completes (complete 2 s (multiply f s n m)) (fun t =>
      t.md = (f (s.gpr n) (s.gpr m)).val ∧ t.flags = (f (s.gpr n) (s.gpr m)).flags ∧ SameSystemBits s t ∧
        t = { s with ip := s.ipNext 2, psw := t.psw, mdl := t.mdl, mdh := t.mdh }) := by
  rw [multiply, readRw_eq h n, ok_bind, readRw_eq h m, ok_bind]
  exact ⟨_, rfl, BitVec.extractLsb'_append_extractLsb', flagsOfPsw_pswWithFlags _ _, system_pswWithFlags _ _, rfl⟩

/-! ### Division -/

/-- The division template on a bank in memory. -/
theorem divide_eq {s : State} (h : bankReady s = true) (f : State → Word → Option Division) (n : Nib) :
    divide f s n = .ok (finishDivision s (f s (s.gpr n))) := by
  rw [divide, readRw_eq h, ok_bind, res_pure]

/-- A division with a result. -/
theorem divide_some {s : State} (h : bankReady s = true) {f : State → Word → Option Division} {n : Nib} {q r : Word}
    (hd : f s (s.gpr n) = some ⟨q, r⟩) :
    Completes (complete 2 s (divide f s n)) (fun t => t.freeCount = s.freeCount ∧ MdResult s t q r (quotientFlags q)) := by
  rw [divide_eq h, hd]
  exact ⟨_, rfl, rfl, mdResult s q r _ s.freeCount⟩

/-- A division without a result sets V and draws four free values (log 9). -/
theorem divide_none {s : State} (h : bankReady s = true) {f : State → Word → Option Division} {n : Nib}
    (hd : f s (s.gpr n) = none) :
    Completes (complete 2 s (divide f s n)) (fun t => ∃ low high z neg, MdResult s t low high ⟨false, z, true, false, neg⟩) := by
  rw [divide_eq h, hd]
  exact ⟨_, rfl, _, _, _, _, mdResult s _ _ _ (s.freeCount + 4)⟩

/-- Whatever a division comes to, E and C are cleared. -/
theorem divide_completes {s : State} (h : bankReady s = true) (f : State → Word → Option Division) (n : Nib) :
    Completes (complete 2 s (divide f s n)) (fun t => ∃ low high fl, fl.e = false ∧ fl.c = false ∧ MdResult s t low high fl) := by
  cases hd : f s (s.gpr n) with
  | some d => exact (divide_some h hd).mono fun t ht => ⟨_, _, _, rfl, rfl, ht.2⟩
  | none =>
    refine (divide_none h hd).mono fun t ht => ?_
    obtain ⟨low, high, z, neg, hr⟩ := ht
    exact ⟨_, _, _, rfl, rfl, hr⟩

/-! ### When a division has a result -/

theorem divideSigned_fits {a d : Int} (hd : d ≠ 0) (h : -32768 ≤ a.tdiv d) (h' : a.tdiv d ≤ 32767) :
    divideSigned .truncating a d = some ⟨BitVec.ofInt 16 (a.tdiv d), BitVec.ofInt 16 (a.tmod d)⟩ := by
  have fits : outOfRange 16 (a.tdiv d) = false := by
    rw [outOfRange_word, decide_eq_false_iff_not]
    omega
  simp [divideSigned, signedQuotient, hd, fits, Int.tmod_def, Int.mul_comm]

theorem divideSigned_zero (m : SignedDivision) (a : Int) : divideSigned m a 0 = none := by simp [divideSigned]

theorem divideSigned_overflow {a d : Int} (h : a.tdiv d < -32768 ∨ 32767 < a.tdiv d) :
    divideSigned .truncating a d = none := by
  have misfit : outOfRange 16 (a.tdiv d) = true := by
    rw [outOfRange_word, decide_eq_true_iff]
    exact h
  simp [divideSigned, signedQuotient, misfit]

theorem divideUnsigned_fits {a d : Nat} (hd : d ≠ 0) (h : a / d ≤ 0xFFFF) :
    divideUnsigned a d = some ⟨BitVec.ofNat 16 (a / d), BitVec.ofNat 16 (a % d)⟩ := by
  simp [divideUnsigned, hd, Nat.not_lt.2 h]

theorem divideUnsigned_zero (a : Nat) : divideUnsigned a 0 = none := by simp [divideUnsigned]

theorem divideUnsigned_overflow {a d : Nat} (h : 0xFFFF < a / d) : divideUnsigned a d = none := by
  simp [divideUnsigned, h]

/-- The quotient of two signed words fits but for -32768 by -1. -/
theorem tdiv_fits {a d : Word} (h : ¬(a.toInt = -32768 ∧ d.toInt = -1)) :
    -32768 ≤ a.toInt.tdiv d.toInt ∧ a.toInt.tdiv d.toInt ≤ 32767 := by
  have bounds := toInt_word_bounds a
  have abs := Int.natAbs_tdiv a.toInt d.toInt
  by_cases one : d.toInt = -1
  · have : a.toInt.tdiv d.toInt = -a.toInt := by rw [one, Int.tdiv_neg, Int.tdiv_one]
    omega
  · by_cases unit : d.toInt = 1
    · have : a.toInt.tdiv d.toInt = a.toInt := by rw [unit, Int.tdiv_one]
      omega
    · by_cases zero : d.toInt = 0
      · have : a.toInt.tdiv d.toInt = 0 := by rw [zero, Int.tdiv_zero]
        omega
      · have half : a.toInt.natAbs / d.toInt.natAbs ≤ a.toInt.natAbs / 2 := Nat.div_le_div_left (by omega) (by decide)
        have : (a.toInt.tdiv d.toInt).natAbs ≤ a.toInt.natAbs / 2 := abs.trans_le half
        omega

/-- A signed remainder fits a word. -/
theorem tmod_fits (a : Int) {d : Word} (hd : d.toInt ≠ 0) : -32768 ≤ a.tmod d.toInt ∧ a.tmod d.toInt ≤ 32767 := by
  have bounds := toInt_word_bounds d
  have abs := Int.natAbs_tmod a d.toInt
  have : a.natAbs % d.toInt.natAbs < d.toInt.natAbs := Nat.mod_lt _ (by omega)
  omega

theorem md_quotient_fits {s : State} {d : Word} (h : s.mdh.toNat < d.toNat) : s.md.toNat / d.toNat ≤ 0xFFFF := by
  have bound := s.mdl.isLt
  have : s.md.toNat < 65536 * d.toNat := by
    rw [md_toNat]
    omega
  have := (Nat.div_lt_iff_lt_mul (by omega)).2 this
  omega

theorem md_quotient_overflows {s : State} {d : Word} (hd : d.toNat ≠ 0) (h : d.toNat ≤ s.mdh.toNat) :
    0xFFFF < s.md.toNat / d.toNat := by
  have : 65536 * d.toNat ≤ s.md.toNat := by
    rw [md_toNat]
    omega
  have := (Nat.le_div_iff_mul_le (by omega)).2 this
  omega

theorem toNat_ofNat_word {x : Nat} (h : x ≤ 0xFFFF) : (BitVec.ofNat 16 x).toNat = x := by
  rw [BitVec.toNat_ofNat]
  omega

/-! ### The instructions as uses of the templates -/

theorem exec_mul (n m : Nib) (s : State) : exec (.mul n m) s = complete 2 s (multiply mulSigned s n m) := rfl

theorem exec_mulu (n m : Nib) (s : State) : exec (.mulu n m) s = complete 2 s (multiply mulUnsigned s n m) := rfl

theorem exec_div (n : Nib) (s : State) : exec (.div n) s =
    complete 2 s (divide (fun s d => divideSigned s.cfg.sdiv s.mdl.toInt d.toInt) s n) := rfl

theorem exec_divl (n : Nib) (s : State) : exec (.divl n) s =
    complete 2 s (divide (fun s d => divideSigned s.cfg.sdiv s.md.toInt d.toInt) s n) := rfl

theorem exec_divu (n : Nib) (s : State) : exec (.divu n) s =
    complete 2 s (divide (fun s d => divideUnsigned s.mdl.toNat d.toNat) s n) := rfl

theorem exec_divlu (n : Nib) (s : State) : exec (.divlu n) s =
    complete 2 s (divide (fun s d => divideUnsigned s.md.toNat d.toNat) s n) := rfl

/-- The quotient's flags and the frame of a division that drew nothing. -/
theorem MdResult.quotient {s t : State} {q r : Word} (h : MdResult s t q r (quotientFlags q))
    (hfree : t.freeCount = s.freeCount) :
    t.flags = ⟨false, decide (t.mdl = 0), false, false, t.mdl.msb⟩ ∧ SameSystemBits s t ∧
      t = { s with ip := s.ipNext 2, psw := t.psw, mdl := t.mdl, mdh := t.mdh } := by
  refine ⟨?flags, h.system, ?frame⟩
  case flags => rw [h.flags, h.mdl, quotientFlags, zOf_eq, nOf]
  case frame =>
    have frame := h.frame
    rw [hfree] at frame
    exact frame

/-- A signed division whose quotient fits: both results are exact. -/
theorem divideSigned_completes {s : State} (h : bankReady s = true) {dividend : State → Int} {n : Nib}
    (hm : s.cfg.sdiv = .truncating) (hd : (s.gpr n).toInt ≠ 0)
    (hq : -32768 ≤ (dividend s).tdiv (s.gpr n).toInt ∧ (dividend s).tdiv (s.gpr n).toInt ≤ 32767) :
    Completes (complete 2 s (divide (fun s d => divideSigned s.cfg.sdiv (dividend s) d.toInt) s n)) (fun t =>
      t.mdl.toInt = (dividend s).tdiv (s.gpr n).toInt ∧ t.mdh.toInt = (dividend s).tmod (s.gpr n).toInt ∧
        t.flags = ⟨false, decide (t.mdl = 0), false, false, t.mdl.msb⟩ ∧ SameSystemBits s t ∧
        t = { s with ip := s.ipNext 2, psw := t.psw, mdl := t.mdl, mdh := t.mdh }) := by
  obtain ⟨low, high⟩ := hq
  have divided : divideSigned s.cfg.sdiv (dividend s) (s.gpr n).toInt = some _ := hm ▸ divideSigned_fits hd low high
  refine (divide_some (f := fun s d => divideSigned s.cfg.sdiv (dividend s) d.toInt) h divided).mono fun t ht => ?_
  obtain ⟨free, hr⟩ := ht
  obtain ⟨rlow, rhigh⟩ := tmod_fits (dividend s) hd
  exact ⟨by rw [hr.mdl, toInt_ofInt_word low high], by rw [hr.mdh, toInt_ofInt_word rlow rhigh], hr.quotient free⟩

/-- An unsigned division whose quotient fits: both results are exact. -/
theorem divideUnsigned_completes {s : State} (h : bankReady s = true) {dividend : State → Nat} {n : Nib}
    (hd : (s.gpr n).toNat ≠ 0) (hq : dividend s / (s.gpr n).toNat ≤ 0xFFFF) :
    Completes (complete 2 s (divide (fun s d => divideUnsigned (dividend s) d.toNat) s n)) (fun t =>
      t.mdl.toNat = dividend s / (s.gpr n).toNat ∧ t.mdh.toNat = dividend s % (s.gpr n).toNat ∧
        t.flags = ⟨false, decide (t.mdl = 0), false, false, t.mdl.msb⟩ ∧ SameSystemBits s t ∧
        t = { s with ip := s.ipNext 2, psw := t.psw, mdl := t.mdl, mdh := t.mdh }) := by
  refine (divide_some (f := fun s d => divideUnsigned (dividend s) d.toNat) h (divideUnsigned_fits hd hq)).mono
    fun t ht => ?_
  obtain ⟨free, hr⟩ := ht
  have remainder : dividend s % (s.gpr n).toNat ≤ 0xFFFF := by
    have := Nat.mod_lt (dividend s) (Nat.pos_of_ne_zero hd)
    have := (s.gpr n).isLt
    omega
  exact ⟨by rw [hr.mdl, toNat_ofNat_word hq], by rw [hr.mdh, toNat_ofNat_word remainder], hr.quotient free⟩

end Sys2Proof.Machine

namespace Sys2Proof.Proofs

open Sys2Proof.Machine

/-- Settles O5: the product is exact because it fits 32 bits, and MD is those bits cut in two and joined again. -/
theorem multiplyResults : Obligations.MultiplyResults := by
  unfold Obligations.MultiplyResults
  intro s n m h
  rw [exec_mul, exec_mulu]
  constructor
  · refine (multiply_completes h mulSigned n m).mono fun t ht => ?_
    rintro p rfl
    obtain ⟨md, flags, system, frame⟩ := ht
    refine ⟨by rw [md]; exact toInt_product _ _, ?_, system, frame⟩
    rw [flags, md]
    simp only [mulSigned, outOfRange_word, nOf]
  · refine (multiply_completes h mulUnsigned n m).mono fun t ht => ?_
    rintro p rfl
    obtain ⟨md, flags, system, frame⟩ := ht
    refine ⟨by rw [md]; exact toNat_product _ _, ?_, system, frame⟩
    rw [flags, md]
    simp only [mulUnsigned, nOf]

/-- Settles O6: each dividend's quotient fits under the hypotheses of its clause; the last clause asks only for what both
ends of a division share. -/
theorem divideResults : Obligations.DivideResults := by
  unfold Obligations.DivideResults
  refine ⟨fun s n h hm hd hx => ?div, fun s n h hm hd low high => ?divl, fun s n h hd => ?divu, fun s n h hd => ?divlu,
    fun s n h i hi => ?other⟩
  case div =>
    rw [exec_div]
    exact divideSigned_completes (dividend := fun s => s.mdl.toInt) h hm hd (tdiv_fits hx)
  case divl =>
    rw [exec_divl]
    exact divideSigned_completes (dividend := fun s => s.md.toInt) h hm hd ⟨low, high⟩
  case divu =>
    rw [exec_divu]
    have fits : s.mdl.toNat / (s.gpr n).toNat ≤ 0xFFFF := (Nat.div_le_self _ _).trans (Nat.le_pred_of_lt s.mdl.isLt)
    exact divideUnsigned_completes (dividend := fun s => s.mdl.toNat) h hd fits
  case divlu =>
    rw [exec_divlu]
    exact divideUnsigned_completes (dividend := fun s => s.md.toNat) h (by omega) (md_quotient_fits hd)
  case other =>
    have shared : ∀ f, Completes (complete 2 s (divide f s n)) (fun t =>
        t.flags.e = false ∧ t.flags.c = false ∧ SameSystemBits s t ∧
          t = { s with ip := s.ipNext 2, psw := t.psw, mdl := t.mdl, mdh := t.mdh, freeCount := t.freeCount }) := fun f =>
      (divide_completes h f n).mono fun t ht => by
        obtain ⟨low, high, fl, he, hc, hr⟩ := ht
        exact ⟨by rw [hr.flags, he], by rw [hr.flags, hc], hr.system, hr.frame⟩
    rcases hi with rfl | rfl
    · exact shared _
    · exact shared _

/-- Settles O7: in each clause the division has no result, and one without a result sets V. -/
theorem divideOverflow : Obligations.DivideOverflow := by
  unfold Obligations.DivideOverflow
  intro s n h
  dsimp only
  have overflow : ∀ f : State → Word → Option Division, f s (s.gpr n) = none →
      Completes (complete 2 s (divide f s n)) (fun t =>
        t.flags.v = true ∧ t.flags.e = false ∧ t.flags.c = false ∧ SameSystemBits s t ∧
          t = { s with ip := s.ipNext 2, psw := t.psw, mdl := t.mdl, mdh := t.mdh, freeCount := t.freeCount }) :=
    fun f hf => (divide_none h hf).mono fun t ht => by
      obtain ⟨low, high, z, neg, hr⟩ := ht
      exact ⟨by rw [hr.flags], by rw [hr.flags], by rw [hr.flags], hr.system, hr.frame⟩
  rw [exec_div, exec_divl, exec_divu, exec_divlu]
  refine ⟨fun hd => overflow _ ?div, fun hd => overflow _ ?divl, fun hd => overflow _ ?divu, fun hd => overflow _ ?divlu⟩
  case div =>
    rcases hd with zero | ⟨hm, ha, hb⟩
    · rw [zero]
      exact divideSigned_zero _ _
    · rw [hm, ha, hb]
      exact divideSigned_overflow (by decide)
  case divl =>
    rcases hd with zero | ⟨hm, hq⟩
    · rw [zero]
      exact divideSigned_zero _ _
    · rw [hm]
      exact divideSigned_overflow hq
  case divu =>
    rw [hd]
    exact divideUnsigned_zero _
  case divlu =>
    by_cases zero : (s.gpr n).toNat = 0
    · rw [zero]
      exact divideUnsigned_zero _
    · exact divideUnsigned_overflow (md_quotient_overflows zero hd)

end Sys2Proof.Proofs
end

section
/-! PROOFS of the statements about 42_bit_and_compare.md (R250, R251, R258, R259, 20_memory.md R67) and
43_loop_prior_shift.md (R268 to R273, R275 to R279). -/

namespace Sys2Proof.Machine

/-! ### One bit of a word -/

/-- The mask of bit `p` in a word has that bit only. -/
theorem getLsbD_oneShifted {p : Nib} {j : Nat} (hj : j < 16) : (1#16 <<< p.toNat).getLsbD j = decide (j = p.toNat) := by
  rw [BitVec.getLsbD_shiftLeft, BitVec.getLsbD_one]
  by_cases lower : j < p.toNat
  · simp [lower, Nat.ne_of_lt lower]
  · simp only [hj, lower, decide_true, decide_false, Bool.not_false, Bool.true_and, decide_eq_decide,
      Nat.zero_lt_succ]
    omega

theorem getLsbD_withBit (w : Word) (p : Nib) (b : Bool) {j : Nat} (hj : j < 16) :
    (withBit w p b).getLsbD j = if j = p.toNat then b else w.getLsbD j := by
  cases b with
  | true =>
    rw [withBit, if_pos rfl, BitVec.getLsbD_or, getLsbD_oneShifted hj]
    by_cases same : j = p.toNat <;> simp [same]
  | false =>
    rw [withBit, if_neg Bool.false_ne_true, BitVec.getLsbD_and, BitVec.getLsbD_not, getLsbD_oneShifted hj]
    by_cases same : j = p.toNat <;> simp [same, hj]

/-- The template for one bit completes, whatever new bit and flags it makes of the old one. -/
theorem updateBit_completes {s : State} {b : Byte} {p : Nib} {f : Bool → Bool} {g : Bool → Flags}
    (h : bitoffReady s b = true) (hr : canReadW s (bitoffW s b) = true)
    (hw : canWriteW s (bitoffW s b) (withBit (s.wordAt (bitoffW s b)) p (f (bitOf (s.wordAt (bitoffW s b)) p))) = true) :
    Completes (complete 2 s (updateBit s b p f g)) (fun t =>
      WordResult s t (bitoffW s b)
        { val := withBit (s.wordAt (bitoffW s b)) p (f (bitOf (s.wordAt (bitoffW s b)) p))
          flags := g (bitOf (s.wordAt (bitoffW s b)) p) } 2) := by
  rw [updateBit_eq h hr hw]
  exact completes_word rfl { val := _, flags := _ }

/-- The template for a bit field completes. -/
theorem updateField_completes {s : State} {b : Byte} {f : Word → Word} {r : Word} (h : bitoffReady s b = true)
    (hr : canReadW s (bitoffW s b) = true) (hv : f (s.wordAt (bitoffW s b)) = r)
    (hw : canWriteW s (bitoffW s b) r = true) :
    Completes (complete 4 s (updateField s b f)) (fun t =>
      WordResult s t (bitoffW s b) { val := r, flags := ⟨false, decide (r = 0), false, false, r.msb⟩ } 4) := by
  subst hv
  rw [updateField_eq h hr hw, fieldFlags, zOf_eq, nOf]
  exact completes_word rfl { val := _, flags := _ }

theorem exec_bclr (s : State) (b : Byte) (p : Nib) :
    exec (.bclr b p) s = complete 2 s (updateBit s b p (fun _ => false) bitFlags) := rfl

theorem exec_bset (s : State) (b : Byte) (p : Nib) :
    exec (.bset b p) s = complete 2 s (updateBit s b p (fun _ => true) bitFlags) := rfl

theorem exec_bfldh (s : State) (b mask data : Byte) : exec (.bfldh b mask data) s =
    complete 4 s (updateField s b (fun w => fieldByte (highByte w) mask data ++ lowByte w)) := rfl

theorem exec_bfldl (s : State) (b mask data : Byte) : exec (.bfldl b mask data) s =
    complete 4 s (updateField s b (fun w => highByte w ++ fieldByte (lowByte w) mask data)) := rfl

/-! ### Compare and loop -/

theorem compareLoop_completes {s : State} (h : bankReady s = true) {source : Res (Word × State)} {b : Word}
    (hs : source = .ok (b, s)) (delta : Word) (n : Nib) (length : Nat) :
    Completes (complete length s (compareLoop delta source n)) (fun t =>
      WordResult s t (s.gprAddress n)
        { val := s.gpr n + delta, flags := (differenceResult (s.gpr n) b false (fun r => decide (r = 0))).flags }
        length) := by
  rw [hs, compareLoop, ok_bind]
  dsimp only
  rw [rwAddress_bank h, ok_bind, memReadW_gpr h, ok_bind, finishW_eq (canWriteW_gpr h n _), compareFlags_word]
  exact completes_word rfl { val := _, flags := _ }

/-- Three instructions that are the template at one step complete in their three forms. -/
theorem compareLoop_forms {delta : Word} {short : Nib → Nib → Instr} {long fromMem : Nib → Word → Instr}
    (hshort : ∀ s n c, exec (short n c) s = complete 2 s (compareLoop delta (fromConst 16 s c) n))
    (hlong : ∀ s n c, exec (long n c) s = complete 4 s (compareLoop delta (fromConst 16 s c) n))
    (hmem : ∀ s n mem, exec (fromMem n mem) s = complete 4 s (compareLoop delta (fromMemW s mem) n)) (s : State) (n : Nib)
    (h : bankReady s = true) :
    let after := fun (b : Word) (length : Nat) (t : State) =>
      WordResult s t (s.gprAddress n)
        { val := s.gpr n + delta, flags := (differenceResult (s.gpr n) b false (fun r => decide (r = 0))).flags } length
    (∀ c : Nib, Completes (exec (short n c) s) (after (c.setWidth 16) 2)) ∧
      (∀ c, Completes (exec (long n c) s) (after c 4)) ∧
      (∀ mem, canReadW s (s.physData mem) = true →
        Completes (exec (fromMem n mem) s) (after (s.wordAt (s.physData mem)) 4)) := by
  refine ⟨fun c => ?short, fun c => ?long, fun mem hr => ?mem⟩
  case short =>
    rw [hshort]
    exact compareLoop_completes h (fromConst_eq 16 s c) delta n 2
  case long =>
    rw [hlong]
    exact compareLoop_completes h (fromConst_same s c) delta n 4
  case mem =>
    rw [hmem]
    exact compareLoop_completes h (fromMemW_eq hr) delta n 4

/-! ### The loops of the shifts, bit by bit -/

/-- A word with a bit entering at the top. -/
theorem getLsbD_enterTop (y : Word) (b : Bool) {i : Nat} (hi : i < 16) :
    (BitVec.ofBool b ++ y.extractLsb' 1 15 : Word).getLsbD i = if i = 15 then b else y.getLsbD (i + 1) := by
  rw [BitVec.getLsbD_append, BitVec.getLsbD_extractLsb', BitVec.getLsbD_ofBool]
  by_cases top : i = 15
  · simp [top]
  · have low : i < 15 := by omega
    simp [top, low, Nat.add_comm]

/-- A word with a bit entering at the bottom. -/
theorem getLsbD_enterBottom (y : Word) (b : Bool) {i : Nat} (hi : i < 16) :
    (y.extractLsb' 0 15 ++ BitVec.ofBool b : Word).getLsbD i = if i = 0 then b else y.getLsbD (i - 1) := by
  rw [BitVec.getLsbD_append, BitVec.getLsbD_extractLsb', BitVec.getLsbD_ofBool]
  by_cases bottom : i = 0
  · simp [bottom]
  · have inside : ¬ i < 1 := by omega
    have high : i - 1 < 15 := by omega
    simp [bottom, inside, high]

section Loops

variable {enters : Word → Bool}

theorem shiftRightLoop_word (k : Nat) (x : Word) {i : Nat} (hi : i < 16) :
    (shiftRightLoop enters (k + 1) x).1.getLsbD i =
      if i = 15 then enters (shiftRightLoop enters k x).1 else (shiftRightLoop enters k x).1.getLsbD (i + 1) :=
  getLsbD_enterTop _ _ hi

theorem shiftLeftLoop_word (k : Nat) (x : Word) {i : Nat} (hi : i < 16) :
    (shiftLeftLoop enters (k + 1) x).1.getLsbD i =
      if i = 0 then enters (shiftLeftLoop enters k x).1 else (shiftLeftLoop enters k x).1.getLsbD (i - 1) :=
  getLsbD_enterBottom _ _ hi

/-- Whatever enters at the top, the bits of the operand move down. -/
theorem shiftRightLoop_moved (k : Nat) (x : Word) {i : Nat} (hi : i + k < 16) :
    (shiftRightLoop enters k x).1.getLsbD i = x.getLsbD (i + k) := by
  induction k generalizing i with
  | zero => rfl
  | succ k ih =>
    rw [shiftRightLoop_word k x (by omega), if_neg (by omega), ih (by omega)]
    congr 1
    omega

/-- Whatever enters at the bottom, the bits of the operand move up. -/
theorem shiftLeftLoop_moved (k : Nat) (x : Word) {i : Nat} (hk : k ≤ i) (hi : i < 16) :
    (shiftLeftLoop enters k x).1.getLsbD i = x.getLsbD (i - k) := by
  induction k generalizing i with
  | zero => rfl
  | succ k ih =>
    rw [shiftLeftLoop_word k x hi, if_neg (by omega), ih (by omega) (by omega)]
    congr 1
    omega

/-- The carry is the last bit shifted out. -/
theorem shiftRightLoop_carry (k : Nat) (x : Word) (hk : k ≤ 16) :
    (shiftRightLoop enters k x).2.1 = lastOutRight x k := by
  cases k with
  | zero => rfl
  | succ k =>
    have moved := shiftRightLoop_moved (enters := enters) k x (i := 0) (by omega)
    rw [Nat.zero_add] at moved
    exact moved

theorem shiftLeftLoop_carry (k : Nat) (x : Word) (hk : k ≤ 16) :
    (shiftLeftLoop enters k x).2 = lastOutLeft x k := by
  cases k with
  | zero => rfl
  | succ k =>
    have moved := shiftLeftLoop_moved (enters := enters) k x (i := 15) (by omega) (by omega)
    have index : 15 - k = 16 - (k + 1) := by omega
    rw [index] at moved
    exact moved

theorem roundingOut_succ (x : Word) (k : Nat) : roundingOut x (k + 1) = decide (x.toNat % 2 ^ k ≠ 0) := by
  cases k with
  | zero => simp [roundingOut, Nat.mod_one]
  | succ k =>
    rw [roundingOut, if_neg (by omega)]
    rfl

/-- One more place rounds if a 1 was lost before or was the last one out. -/
theorem roundingOut_step (x : Word) (k : Nat) : roundingOut x (k + 1) = (roundingOut x k || lastOutRight x k) := by
  cases k with
  | zero => simp [roundingOut, lastOutRight]
  | succ j =>
    have bit : lastOutRight x (j + 1) = decide (x.toNat / 2 ^ j % 2 = 1) := by
      rw [lastOutRight, if_neg (by omega), BitVec.getLsbD, Nat.testBit_eq_decide_div_mod_eq]
      rfl
    have parts : x.toNat % 2 ^ (j + 1) = x.toNat % 2 ^ j + 2 ^ j * (x.toNat / 2 ^ j % 2) := Nat.mod_pow_succ
    have positive : 0 < 2 ^ j := Nat.two_pow_pos j
    rw [roundingOut_succ, roundingOut_succ, bit, ← Bool.decide_or, decide_eq_decide, parts]
    rcases Nat.mod_two_eq_zero_or_one (x.toNat / 2 ^ j) with even | odd
    · simp [even]
    · rw [odd, Nat.mul_one]
      omega

theorem shiftRightLoop_rounding (k : Nat) (x : Word) (hk : k ≤ 16) :
    (shiftRightLoop enters k x).2.2 = roundingOut x k := by
  induction k with
  | zero => rfl
  | succ k ih =>
    rw [roundingOut_step, ← ih (by omega), ← shiftRightLoop_carry (enters := enters) k x (by omega)]
    rfl

end Loops

/-! ### The words that the loops leave -/

theorem shl_loop (k : Nat) (x : Word) : (shiftLeftLoop (fun _ => false) k x).1 = x <<< k := by
  apply BitVec.eq_of_getLsbD_eq
  intro i hi
  rw [BitVec.getLsbD_shiftLeft]
  by_cases moved : k ≤ i
  · rw [shiftLeftLoop_moved k x moved hi]
    simp [hi, Nat.not_lt.2 moved]
  · have entered : (shiftLeftLoop (fun _ => false) k x).1.getLsbD i = false := by
      induction k generalizing i with
      | zero => omega
      | succ k ih =>
        rw [shiftLeftLoop_word k x hi]
        split
        · rfl
        · exact ih (i - 1) (by omega) (by omega)
    rw [entered]
    simp [Nat.lt_of_not_le moved]

theorem rol_loop {k : Nat} (hk : k ≤ 16) (x : Word) :
    (shiftLeftLoop (·.getLsbD 15) k x).1 = x <<< k ||| x >>> (16 - k) := by
  apply BitVec.eq_of_getLsbD_eq
  intro i hi
  rw [BitVec.getLsbD_or, BitVec.getLsbD_shiftLeft, BitVec.getLsbD_ushiftRight]
  by_cases moved : k ≤ i
  · have outside : x.getLsbD (16 - k + i) = false := BitVec.getLsbD_of_ge x _ (by omega)
    rw [shiftLeftLoop_moved k x moved hi, outside]
    simp [hi, Nat.not_lt.2 moved]
  · have entered : (shiftLeftLoop (·.getLsbD 15) k x).1.getLsbD i = x.getLsbD (16 - k + i) := by
      induction k generalizing i with
      | zero => omega
      | succ k ih =>
        rw [shiftLeftLoop_word k x hi]
        split
        next bottom =>
          rw [shiftLeftLoop_moved k x (by omega) (by omega)]
          congr 1
          omega
        next =>
          rw [ih (by omega) (i - 1) (by omega) (by omega)]
          congr 1
          omega
    rw [entered]
    simp [Nat.lt_of_not_le moved]

theorem shr_loop (k : Nat) (x : Word) : (shiftRightLoop (fun _ => false) k x).1 = x >>> k := by
  apply BitVec.eq_of_getLsbD_eq
  intro i hi
  rw [BitVec.getLsbD_ushiftRight, Nat.add_comm k i]
  by_cases moved : i + k < 16
  · exact shiftRightLoop_moved k x moved
  · rw [BitVec.getLsbD_of_ge x _ (by omega)]
    induction k generalizing i with
    | zero => omega
    | succ k ih =>
      rw [shiftRightLoop_word k x hi]
      split
      · rfl
      · exact ih (i + 1) (by omega) (by omega)

theorem ror_loop {k : Nat} (hk : k ≤ 16) (x : Word) :
    (shiftRightLoop (·.getLsbD 0) k x).1 = x >>> k ||| x <<< (16 - k) := by
  apply BitVec.eq_of_getLsbD_eq
  intro i hi
  rw [BitVec.getLsbD_or, BitVec.getLsbD_shiftLeft, BitVec.getLsbD_ushiftRight, Nat.add_comm k i]
  by_cases moved : i + k < 16
  · have inside : i < 16 - k := by omega
    rw [shiftRightLoop_moved k x moved]
    simp [inside]
  · have entered : (shiftRightLoop (·.getLsbD 0) k x).1.getLsbD i = x.getLsbD (i - (16 - k)) := by
      induction k generalizing i with
      | zero => omega
      | succ k ih =>
        rw [shiftRightLoop_word k x hi]
        split
        next top =>
          rw [shiftRightLoop_moved k x (by omega)]
          congr 1
          omega
        next =>
          rw [ih (by omega) (i + 1) (by omega) (by omega)]
          congr 1
          omega
    have outside : x.getLsbD (i + k) = false := BitVec.getLsbD_of_ge x _ (by omega)
    have above : ¬ i < 16 - k := by omega
    rw [entered, outside]
    simp [above, hi]

theorem ashr_loop (k : Nat) (x : Word) : (shiftRightLoop (·.getLsbD 15) k x).1 = x.sshiftRight k := by
  have top : ∀ k, (shiftRightLoop (·.getLsbD 15) k x).1.getLsbD 15 = x.getLsbD 15 := by
    intro k
    induction k with
    | zero => rfl
    | succ k ih => rw [shiftRightLoop_word k x (by decide), if_pos rfl, ih]
  apply BitVec.eq_of_getLsbD_eq
  intro i hi
  rw [BitVec.getLsbD_sshiftRight, Nat.add_comm k i]
  by_cases moved : i + k < 16
  · have inside : ¬ 16 ≤ i := by omega
    rw [shiftRightLoop_moved k x moved]
    simp [moved, inside]
  · have entered : (shiftRightLoop (·.getLsbD 15) k x).1.getLsbD i = x.getLsbD 15 := by
      induction k generalizing i with
      | zero => omega
      | succ k ih =>
        rw [shiftRightLoop_word k x hi]
        split
        · exact top k
        next notTop =>
          by_cases reached : i + 1 + k < 16
          · omega
          · exact ih (i + 1) (by omega) reached
    have sign : x.msb = x.getLsbD 15 := rfl
    have inside : ¬ 16 ≤ i := by omega
    simp only [entered, sign, moved, inside, decide_false, Bool.not_false, Bool.true_and, if_false]

/-- What the model computes at once is what the loop of the Operation leaves (43_loop_prior_shift.md R275 to R279). -/
theorem shift_eval (op : ShiftOp) (x : Word) (count : Nib) : op.eval x count = shiftedBy op x count.toNat := by
  have bound : count.toNat ≤ 16 := by have := count.isLt; omega
  cases op with
  | shl => simp only [ShiftOp.eval, shiftedBy, shiftResult, shl_loop, shiftLeftLoop_carry _ x bound, zOf_eq, nOf]
  | rol => simp only [ShiftOp.eval, shiftedBy, shiftResult, rol_loop bound, shiftLeftLoop_carry _ x bound, zOf_eq, nOf]
  | shr =>
    simp only [ShiftOp.eval, shiftedBy, shiftResult, shr_loop, shiftRightLoop_carry _ x bound,
      shiftRightLoop_rounding _ x bound, zOf_eq, nOf]
  | ror =>
    simp only [ShiftOp.eval, shiftedBy, shiftResult, ror_loop bound, shiftRightLoop_carry _ x bound,
      shiftRightLoop_rounding _ x bound, zOf_eq, nOf]
  | ashr =>
    simp only [ShiftOp.eval, shiftedBy, shiftResult, ashr_loop, shiftRightLoop_carry _ x bound,
      shiftRightLoop_rounding _ x bound, zOf_eq, nOf]

/-- The shift template completes with as many turns of the loop as the low four bits of the source. -/
theorem shift_completes {s : State} (h : bankReady s = true) (op : ShiftOp) {w : Nat} {source : Res (BitVec w × State)}
    {b : BitVec w} (hs : source = .ok (b, s)) (n : Nib) {count : Nat} (hc : (b.setWidth 4).toNat = count) :
    Completes (complete 2 s (shift op source n)) (fun t =>
      WordResult s t (s.gprAddress n) (shiftedBy op (s.gpr n) count) 2) := by
  subst hc
  rw [hs, shift, ok_bind]
  dsimp only
  rw [rwAddress_bank h, ok_bind, memReadW_gpr h, ok_bind, finishW_eq (canWriteW_gpr h n _), shift_eval]
  exact completes_word rfl _

end Sys2Proof.Machine

namespace Sys2Proof.Proofs

open Sys2Proof.Machine

/-- Settles O9: the mask of the bit has that bit only. -/
theorem bitReplacement : Obligations.BitReplacement := by
  unfold Obligations.BitReplacement
  exact fun w p b j hj => getLsbD_withBit w p b hj

/-- Settles O10: both are the template for one bit, with a constant new bit. -/
theorem bitClearAndSet : Obligations.BitClearAndSet := by
  unfold Obligations.BitClearAndSet
  rintro s b p h pa rfl hr w rfl f rfl
  rw [exec_bclr, exec_bset]
  exact ⟨fun hw => updateBit_completes (f := fun _ => false) (g := bitFlags) h hr hw,
    fun hw => updateBit_completes (f := fun _ => true) (g := bitFlags) h hr hw⟩

/-- Settles O12: both are the template for a bit field, at the field's word. -/
theorem bitFields : Obligations.BitFields := by
  unfold Obligations.BitFields
  rintro s b mask data h pa rfl hr w rfl
  rw [exec_bfldh, exec_bfldl]
  exact ⟨fun r hres hw => updateField_completes h hr hres.symm hw, fun r hres hw => updateField_completes h hr hres.symm hw⟩

/-- Settles O13: the four instructions are one template at four steps. -/
theorem compareAndLoop : Obligations.CompareAndLoop := by
  unfold Obligations.CompareAndLoop
  dsimp only
  exact ⟨compareLoop_forms (fun _ _ _ => rfl) (fun _ _ _ => rfl) fun _ _ _ => rfl,
    compareLoop_forms (fun _ _ _ => rfl) (fun _ _ _ => rfl) fun _ _ _ => rfl,
    compareLoop_forms (fun _ _ _ => rfl) (fun _ _ _ => rfl) fun _ _ _ => rfl,
    compareLoop_forms (fun _ _ _ => rfl) (fun _ _ _ => rfl) fun _ _ _ => rfl⟩

/-- Settles O15: each operation's word, carry and rounding flag are its loop's, by inductions on the count. -/
theorem shiftForms : Obligations.ShiftForms := by
  unfold Obligations.ShiftForms
  intro s n h
  dsimp only
  have byRegister : ∀ op m, Completes (complete 2 s (shift op (fromRw s m) n)) (fun t =>
      WordResult s t (s.gprAddress n) (shiftedBy op (s.gpr n) ((s.gpr m).toNat % 16)) 2) := fun op m =>
    shift_completes h op (fromRw_eq h m) n (BitVec.toNat_setWidth 4 _)
  have byConstant : ∀ op (c : Nib), Completes (complete 2 s (shift op (fromConst 4 s c) n)) (fun t =>
      WordResult s t (s.gprAddress n) (shiftedBy op (s.gpr n) c.toNat) 2) := fun op c =>
    shift_completes h op (fromConst_same s c) n (by rw [BitVec.setWidth_eq])
  exact ⟨byRegister .shl, byConstant .shl, byRegister .shr, byConstant .shr, byRegister .rol, byConstant .rol,
    byRegister .ror, byConstant .ror, byRegister .ashr, byConstant .ashr⟩

end Sys2Proof.Proofs
end

section
/-! PROOFS of the statements about 44_data_movement.md: MOV, MOVB, MOVBS, MOVBZ (R288 to R335). -/

namespace Sys2Proof.Machine

/-! ### The move templates -/

theorem moveW_eq {u : State} {source : Res (Word × State)} {put : State → Flagged 16 → Res State} {v : Word}
    (hs : source = .ok (v, u)) : moveW source put = put u (movedResult u.flags v) := by
  rw [hs, moveW, ok_bind]
  dsimp only
  rw [moveFlags_word]
  rfl

theorem moveB_eq {u : State} {source : Res (Byte × State)} {put : State → Flagged 8 → Res State} {v : Byte}
    (hs : source = .ok (v, u)) : moveB source put = put u (movedResult u.flags v) := by
  rw [hs, moveB, ok_bind]
  dsimp only
  rw [moveFlags_byte]
  rfl

section Templates

variable {s u w : State} {pa length : Nat} (hip : w.ip = s.ip)
include hip

/-- A word is read in `s`, and `put` writes it and its flags into `w`: the move completes as a result of `w`. -/
theorem moveW_completes {source : Res (Word × State)} {put : State → Flagged 16 → Res State} {v : Word}
    {f : Flags} (hs : source = .ok (v, u)) (hf : u.flags = f)
    (hput : put u (movedResult f v) = .ok ((w.putWord pa v).setFlagsFor pa (movedFlags f v))) :
    Completes (complete length s (moveW source put)) (fun t => WordResult w t pa (movedResult f v) length) := by
  subst hf
  rw [moveW_eq hs, hput]
  exact completes_word hip (movedResult u.flags v)

/-- A byte is read in `s`, and `put` writes it and its flags into `w`: the move completes as a result of `w`. -/
theorem moveB_completes {source : Res (Byte × State)} {put : State → Flagged 8 → Res State} {v : Byte}
    {f : Flags} (hs : source = .ok (v, u)) (hf : u.flags = f)
    (hput : put u (movedResult f v) = .ok ((w.putByte pa v).setFlagsFor pa (movedFlags f v))) :
    Completes (complete length s (moveB source put)) (fun t => ByteResult w t pa (movedResult f v) length) := by
  subst hf
  rw [moveB_eq hs, hput]
  exact completes_byte hip (movedResult u.flags v)

/-- MOVBS and MOVBZ: the byte read is extended, and its flags are those of the byte. -/
theorem moveExtended_completes {source : Res (Byte × State)} {address : State → Res Nat} {extend : Byte → Word}
    {flags : Flags → Byte → Flags} {v : Byte} {f : Flags} (hs : source = .ok (v, w)) (ha : address w = .ok pa)
    (hf : flags w.flags v = f) (hw : canWriteW w pa (extend v) = true) :
    Completes (complete length s (moveExtended extend flags source address))
      (fun t => WordResult w t pa { val := extend v, flags := f } length) := by
  subst hf
  rw [hs, moveExtended, ok_bind]
  dsimp only
  rw [toW_eq ha hw]
  exact completes_word hip { val := _, flags := _ }

end Templates

theorem signExtendFlags_eq (f : Flags) (v : Byte) :
    signExtendFlags f v = { f with e := false, z := decide (v = 0), n := v.msb } := by
  rw [signExtendFlags, zOf_eq, nOf]

theorem zeroExtendFlags_eq (f : Flags) (v : Byte) :
    zeroExtendFlags f v = { f with e := false, z := decide (v = 0), n := false } := by
  rw [zeroExtendFlags, zOf_eq]

/-! ### A move into a GPR -/

theorem toW_gpr {s : State} (h : bankReady s = true) (n : Nib) (r : Flagged 16) :
    toW (rwAddress · n) s r = .ok ((s.putWord (s.gprAddress n) r.val).setFlagsFor (s.gprAddress n) r.flags) :=
  toW_eq (rwAddress_bank h n) (canWriteW_gpr h n _)

theorem toB_gpr {s : State} (h : bankReady s = true) (k : Nib) (r : Flagged 8) :
    toB (rbAddress · k) s r = .ok ((s.putByte (s.gprByteAddress k) r.val).setFlagsFor (s.gprByteAddress k) r.flags) :=
  toB_eq (rbAddress_bank h k) (canWriteB_gpr h k _)

/-! ### The forms with two GPRs, one of which moves -/

theorem moveRwIndInc_other {s : State} {n m : Nib} (h : m ≠ n) :
    moveRwIndInc s n m = moveW (readIndIncW s m) (toW (rwAddress · n)) := by rw [moveRwIndInc, if_neg h]

theorem moveRbIndInc_other {s : State} {n m : Nib} (h : m ≠ wordOfByteGpr n) :
    moveRbIndInc s n m = moveB (readIndIncB s m) (toB (rbAddress · n)) := by rw [moveRbIndInc, if_neg h]

theorem movePreDecRw_other {s : State} {m n : Nib} (h : m ≠ n) :
    movePreDecRw s m n = moveW (fromRw s n) (finishPreDecW · m) := by rw [movePreDecRw, if_neg h]

theorem movePreDecRb_other {s : State} {m n : Nib} (h : m ≠ wordOfByteGpr n) :
    movePreDecRb s m n = moveB (fromRb s n) (finishPreDecB · m) := by rw [movePreDecRb, if_neg h]

theorem moveIndIncIndW_other {s : State} {n m : Nib} (h : n ≠ m) :
    moveIndIncIndW s n m = moveW (readIndW s m) (finishIndIncW · n false) := by
  rw [moveIndIncIndW, decide_eq_false h]

theorem moveIndIncIndB_other {s : State} {n m : Nib} (h : n ≠ m) :
    moveIndIncIndB s n m = moveB (readIndB s m) (finishIndIncB · n false) := by
  rw [moveIndIncIndB, decide_eq_false h]

theorem moveIndIndIncW_other {s : State} {n m : Nib} (h : n ≠ m) :
    moveIndIndIncW s n m = moveW (readIndIncW s m) (finishIndW · n) := by rw [moveIndIndIncW, if_neg h]

theorem moveIndIndIncB_other {s : State} {n m : Nib} (h : n ≠ m) :
    moveIndIndIncB s n m = moveB (readIndIncB s m) (finishIndB · n) := by rw [moveIndIndIncB, if_neg h]

/-- The destination of `[Rwn], [Rwm+]` is formed after the increment of the other pointer. -/
theorem finishIndW_storeWord {s : State} {n m : Nib} {x : Word} {r : Flagged 16} (h : bankReady s = true) (hnm : n ≠ m)
    (hw : canWriteW s (s.physData (s.gpr n)) r.val = true) (ho : s.ownWord n (s.physData (s.gpr n)) = false) :
    finishIndW (s.storeWord (s.gprAddress m) x) n r =
      .ok (((s.storeWord (s.gprAddress m) x).putWord (s.physData (s.gpr n)) r.val).setFlagsFor (s.physData (s.gpr n))
        r.flags) := by
  have put := finishIndW_eq (s := s.storeWord (s.gprAddress m) x) (f := n) (r := r) h
  rw [gpr_storeWord_other h hnm, physData_storeWord] at put
  exact put hw ho

theorem finishIndB_storeWord {s : State} {n m : Nib} {x : Word} {r : Flagged 8} (h : bankReady s = true) (hnm : n ≠ m)
    (hw : canWriteB s (s.physData (s.gpr n)) r.val = true) (ho : s.ownWord n (s.physData (s.gpr n)) = false) :
    finishIndB (s.storeWord (s.gprAddress m) x) n r =
      .ok (((s.storeWord (s.gprAddress m) x).putByte (s.physData (s.gpr n)) r.val).setFlagsFor (s.physData (s.gpr n))
        r.flags) := by
  have put := finishIndB_eq (s := s.storeWord (s.gprAddress m) x) (f := n) (r := r) h
  rw [gpr_storeWord_other h hnm, physData_storeWord] at put
  exact put hw ho

/-! ### The instructions whose template depends on the pair of GPRs -/

theorem exec_movRwIndInc (s : State) (n m : Nib) : exec (.movRwIndInc n m) s = complete 2 s (moveRwIndInc s n m) := rfl

theorem exec_movPreDecRw (s : State) (m n : Nib) : exec (.movPreDecRw m n) s = complete 2 s (movePreDecRw s m n) := rfl

theorem exec_movIndIncInd (s : State) (n m : Nib) : exec (.movIndIncInd n m) s = complete 2 s (moveIndIncIndW s n m) := rfl

theorem exec_movIndIndInc (s : State) (n m : Nib) : exec (.movIndIndInc n m) s = complete 2 s (moveIndIndIncW s n m) := rfl

theorem exec_movbRbIndInc (s : State) (n m : Nib) : exec (.movbRbIndInc n m) s = complete 2 s (moveRbIndInc s n m) := rfl

theorem exec_movbPreDecRb (s : State) (m n : Nib) : exec (.movbPreDecRb m n) s = complete 2 s (movePreDecRb s m n) := rfl

theorem exec_movbIndIncInd (s : State) (n m : Nib) : exec (.movbIndIncInd n m) s = complete 2 s (moveIndIncIndB s n m) := rfl

theorem exec_movbIndIndInc (s : State) (n m : Nib) : exec (.movbIndIndInc n m) s = complete 2 s (moveIndIndIncB s n m) := rfl

end Sys2Proof.Machine

namespace Sys2Proof.Proofs

open Sys2Proof.Machine

/-- Settles O16: each form is the move template at its source and destination. -/
theorem moveWordDirect : Obligations.MoveWordDirect := by
  unfold Obligations.MoveWordDirect
  refine ⟨fun s n m h => ?gpr, fun s n c h => ?short, fun s reg c h hw => ?long, fun s reg mem h hr v hv hw => ?regMem,
    fun s mem reg h hr v hv hw => ?memReg⟩
  case gpr => exact moveW_completes rfl (fromRw_eq h m) rfl (toW_gpr h n _)
  case short => exact moveW_completes rfl (fromConst_eq 16 s c) rfl (toW_gpr h n _)
  case long => exact moveW_completes rfl (fromConst_same s c) rfl (toW_eq (regAddressW_eq h) hw)
  case regMem =>
    subst hv
    exact moveW_completes rfl (fromMemW_eq hr) rfl (toW_eq (regAddressW_eq h) hw)
  case memReg =>
    subst hv
    exact moveW_completes rfl (fromRegW_eq h hr) rfl (toW_eq (address := (memAddress · mem)) rfl hw)

/-- Settles O17: each form is the move template; `[Rwm+]` moves its pointer before the store, `[Rwn+]` after it. -/
theorem moveWordIndirect : Obligations.MoveWordIndirect := by
  unfold Obligations.MoveWordIndirect
  refine ⟨fun s n m h pa hpa hr ho => ?load, fun s n m h hne la hla pa hpa hr ho => ?loadInc,
    fun s m n h pa hpa hw ho => ?store, fun s m n h hne la hla pa hpa hw ho => ?storeDec,
    fun s n m h qa hqa hr hoq v hv pa hpa hw ho => ?copy,
    fun s n m h hne qa hqa hr hoq v hv la hla pa hpa hw ho => ?copyToInc,
    fun s n m h hne la hla qa hqa hr hoq v hv pa hpa hw ho => ?copyFromInc, fun s n m c h pa hpa hr ho => ?loadDisp,
    fun s m c n h pa hpa hw ho => ?storeDisp, fun s n mem h hr v hv pa hpa hw ho => ?fromMem,
    fun s mem n h qa hqa hr hoq v hv hw => ?toMem⟩
  case load =>
    subst hpa
    exact moveW_completes rfl (readIndW_eq h hr ho) rfl (toW_gpr h n _)
  case loadInc =>
    subst hpa hla
    rw [exec_movRwIndInc, moveRwIndInc_other hne]
    exact moveW_completes (w := s.storeWord (s.gprAddress m) (s.gpr m + 2)) (f := s.flags) rfl (readIndIncW_eq h hr ho)
      rfl (toW_gpr (s := s.storeWord _ _) h n _)
  case store =>
    subst hpa
    exact moveW_completes rfl (fromRw_eq h n) rfl (finishIndW_eq h hw ho)
  case storeDec =>
    subst hpa hla
    rw [exec_movPreDecRw, movePreDecRw_other hne]
    exact moveW_completes (w := s.storeWord (s.gprAddress m) (s.gpr m - 2)) rfl (fromRw_eq h n) rfl
      (finishPreDecW_eq h hw ho)
  case copy =>
    subst hv hqa hpa
    exact moveW_completes rfl (readIndW_eq h hr hoq) rfl (finishIndW_eq h hw ho)
  case copyToInc =>
    subst hqa hpa hla
    have source := readIndW_eq h hr hoq
    rw [← hv] at source
    rw [exec_movIndIncInd, moveIndIncIndW_other hne, moveW_eq source,
      finishIndIncW_eq (r := movedResult s.flags v) h hw ho, complete_ok]
    exact ⟨_, rfl, rfl⟩
  case copyFromInc =>
    subst hv hqa hpa hla
    rw [exec_movIndIndInc, moveIndIndIncW_other hne]
    exact moveW_completes (w := s.storeWord (s.gprAddress m) (s.gpr m + 2)) (f := s.flags) rfl (readIndIncW_eq h hr hoq)
      rfl (finishIndW_storeWord h hne hw ho)
  case loadDisp =>
    subst hpa
    exact moveW_completes rfl (readDispW_eq h hr ho) rfl (toW_gpr h n _)
  case storeDisp =>
    subst hpa
    exact moveW_completes rfl (fromRw_eq h n) rfl (finishDispW_eq h hw ho)
  case fromMem =>
    subst hv hpa
    exact moveW_completes rfl (fromMemW_eq hr) rfl (finishIndW_eq h hw ho)
  case toMem =>
    subst hv hqa
    exact moveW_completes rfl (readIndW_eq h hr hoq) rfl (toW_eq (address := (memAddress · mem)) rfl hw)

/-- Settles O18: each form is the move template at its source and destination. -/
theorem moveByteDirect : Obligations.MoveByteDirect := by
  unfold Obligations.MoveByteDirect
  refine ⟨fun s n m h => ?gpr, fun s n c h => ?short, fun s reg c h hw => ?long, fun s reg mem h hr v hv hw => ?regMem,
    fun s mem reg h hr v hv hw => ?memReg⟩
  case gpr => exact moveB_completes rfl (fromRb_eq h m) rfl (toB_gpr h n _)
  case short => exact moveB_completes rfl (fromConst_eq 8 s c) rfl (toB_gpr h n _)
  case long => exact moveB_completes rfl (fromConst_same s c) rfl (toB_eq (regAddressB_eq h) hw)
  case regMem =>
    subst hv
    exact moveB_completes rfl (fromMemB_eq hr) rfl (toB_eq (regAddressB_eq h) hw)
  case memReg =>
    subst hv
    exact moveB_completes rfl (fromRegB_eq h hr) rfl (toB_eq (address := (memAddress · mem)) rfl hw)

/-- Settles O19: each form is the move template; `[Rwm+]` moves its pointer before the store, `[Rwn+]` after it. -/
theorem moveByteIndirect : Obligations.MoveByteIndirect := by
  unfold Obligations.MoveByteIndirect
  refine ⟨fun s n m h pa hpa hr ho => ?load, fun s n m h hne la hla pa hpa hr ho => ?loadInc,
    fun s m n h pa hpa hw ho => ?store, fun s m n h hne la hla pa hpa hw ho => ?storeDec,
    fun s n m h qa hqa hr hoq v hv pa hpa hw ho => ?copy,
    fun s n m h hne qa hqa hr hoq v hv la hla pa hpa hw ho => ?copyToInc,
    fun s n m h hne la hla qa hqa hr hoq v hv pa hpa hw ho => ?copyFromInc, fun s n m c h pa hpa hr ho => ?loadDisp,
    fun s m c n h pa hpa hw ho => ?storeDisp, fun s n mem h hr v hv pa hpa hw ho => ?fromMem,
    fun s mem n h qa hqa hr hoq v hv hw => ?toMem⟩
  case load =>
    subst hpa
    exact moveB_completes rfl (readIndB_eq h hr ho) rfl (toB_gpr h n _)
  case loadInc =>
    subst hpa hla
    rw [exec_movbRbIndInc, moveRbIndInc_other hne]
    exact moveB_completes (w := s.storeWord (s.gprAddress m) (s.gpr m + 1)) (f := s.flags) rfl (readIndIncB_eq h hr ho)
      rfl (toB_gpr (s := s.storeWord _ _) h n _)
  case store =>
    subst hpa
    exact moveB_completes rfl (fromRb_eq h n) rfl (finishIndB_eq h hw ho)
  case storeDec =>
    subst hpa hla
    rw [exec_movbPreDecRb, movePreDecRb_other hne]
    exact moveB_completes (w := s.storeWord (s.gprAddress m) (s.gpr m - 1)) rfl (fromRb_eq h n) rfl
      (finishPreDecB_eq h hw ho)
  case copy =>
    subst hv hqa hpa
    exact moveB_completes rfl (readIndB_eq h hr hoq) rfl (finishIndB_eq h hw ho)
  case copyToInc =>
    subst hqa hpa hla
    have source := readIndB_eq h hr hoq
    rw [← hv] at source
    rw [exec_movbIndIncInd, moveIndIncIndB_other hne, moveB_eq source,
      finishIndIncB_eq (r := movedResult s.flags v) h hw ho, complete_ok]
    exact ⟨_, rfl, rfl⟩
  case copyFromInc =>
    subst hv hqa hpa hla
    rw [exec_movbIndIndInc, moveIndIndIncB_other hne]
    exact moveB_completes (w := s.storeWord (s.gprAddress m) (s.gpr m + 1)) (f := s.flags) rfl (readIndIncB_eq h hr hoq)
      rfl (finishIndB_storeWord h hne hw ho)
  case loadDisp =>
    subst hpa
    exact moveB_completes rfl (readDispB_eq h hr ho) rfl (toB_gpr h n _)
  case storeDisp =>
    subst hpa
    exact moveB_completes rfl (fromRb_eq h n) rfl (finishDispB_eq h hw ho)
  case fromMem =>
    subst hv hpa
    exact moveB_completes rfl (fromMemB_eq hr) rfl (finishIndB_eq h hw ho)
  case toMem =>
    subst hv hqa
    exact moveB_completes rfl (readIndB_eq h hr hoq) rfl (toB_eq (address := (memAddress · mem)) rfl hw)

/-- Settles O20: the three forms of each instruction are one template at its extension and flags. -/
theorem moveExtended : Obligations.MoveExtended := by
  unfold Obligations.MoveExtended
  refine ⟨⟨?_, ?_, ?_⟩, ?_, ?_, ?_⟩
  · exact fun s n m h => moveExtended_completes rfl (fromRb_eq h m) (rwAddress_bank h n) (signExtendFlags_eq _ _)
      (canWriteW_gpr h n _)
  · rintro s reg mem h hr v rfl hw
    exact moveExtended_completes rfl (fromMemB_eq hr) (regAddressW_eq h) (signExtendFlags_eq _ _) hw
  · rintro s mem reg h hr v rfl hw
    exact moveExtended_completes rfl (fromRegB_eq h hr) rfl (signExtendFlags_eq _ _) hw
  · exact fun s n m h => moveExtended_completes rfl (fromRb_eq h m) (rwAddress_bank h n) (zeroExtendFlags_eq _ _)
      (canWriteW_gpr h n _)
  · rintro s reg mem h hr v rfl hw
    exact moveExtended_completes rfl (fromMemB_eq hr) (regAddressW_eq h) (zeroExtendFlags_eq _ _) hw
  · rintro s mem reg h hr v rfl hw
    exact moveExtended_completes rfl (fromRegB_eq h hr) rfl (zeroExtendFlags_eq _ _) hw

end Sys2Proof.Proofs
end

section
/-! PROOFS of the statements about 45_jump_call.md sections 2 to 4 and 46_stack_return.md: JBC, JNBS, calls, TRAP, stack and
returns (R348, R350 to R356, R370 to R377). -/

namespace Sys2Proof.Machine

/-! ### JBC and JNBS -/

@[simp] theorem setFlagsFor_ip (s : State) (pa : Nat) (f : Flags) : (s.setFlagsFor pa f).ip = s.ip := by
  unfold State.setFlagsFor
  split <;> rfl

theorem branch_taken (s : State) (length : Nat) (target : Word) : branch s length true target = s.goto target := rfl

theorem branch_untaken (s : State) (length : Nat) (target : Word) :
    branch s length false target = s.goto (s.ip + BitVec.ofNat 16 length) := rfl

/-- The bit has the wanted value: it is inverted and the branch is taken. -/
theorem jumpOnBitAndChange_taken {s : State} {b : Byte} {p : Nib} {wanted : Bool} (h : bitoffReady s b = true)
    (hr : canReadW s (bitoffW s b) = true) (hb : (s.wordAt (bitoffW s b)).getLsbD p.toNat = wanted)
    (hw : canWriteW s (bitoffW s b) (withBit (s.wordAt (bitoffW s b)) p (!wanted)) = true) (rel : Byte) :
    jumpOnBitAndChange s wanted b p rel =
      .ok (((s.putWord (bitoffW s b) (withBit (s.wordAt (bitoffW s b)) p (!wanted))).setFlagsFor (bitoffW s b)
        (bitFlags wanted)).goto (s.ip + 4 + 2 * rel.signExtend 16)) := by
  have old : bitOf (s.wordAt (bitoffW s b)) p = wanted := hb
  rw [jumpOnBitAndChange, bitoffAddress_eq h, ok_bind, memReadW_eq hr, ok_bind, old]
  dsimp only
  rw [beq_self_eq_true, memWriteWhenW_true, memWriteW_eq hw, ok_bind, res_pure, branch_taken, relTarget_ipNext]
  rfl

/-- The bit does not have the wanted value: only the flags are set. -/
theorem jumpOnBitAndChange_untaken {s : State} {b : Byte} {p : Nib} {wanted : Bool} (h : bitoffReady s b = true)
    (hr : canReadW s (bitoffW s b) = true) (hb : (s.wordAt (bitoffW s b)).getLsbD p.toNat = !wanted) (rel : Byte) :
    jumpOnBitAndChange s wanted b p rel =
      .ok ((s.setFlagsFor (bitoffW s b) (bitFlags (!wanted))).goto (s.ip + 4)) := by
  have old : bitOf (s.wordAt (bitoffW s b)) p = !wanted := hb
  have differs : ((!wanted) == wanted) = false := by cases wanted <;> rfl
  rw [jumpOnBitAndChange, bitoffAddress_eq h, ok_bind, memReadW_eq hr, ok_bind, old]
  dsimp only
  rw [differs, memWriteWhenW_false, ok_bind, res_pure, branch_untaken, setFlagsFor_ip]
  rfl

theorem exec_jbc (s : State) (b : Byte) (p : Nib) (rel : Byte) :
    exec (.jbc b p rel) s = settle (s.ipNext 4) (jumpOnBitAndChange s true b p rel) := rfl

theorem exec_jnbs (s : State) (b : Byte) (p : Nib) (rel : Byte) :
    exec (.jnbs b p rel) s = settle (s.ipNext 4) (jumpOnBitAndChange s false b p rel) := rfl

/-! ### Calls -/

theorem call_eq {s : State} (h : roomBelow s 1 = true) (length : Nat) (target : Word) :
    call s length target = .ok ((pushed s (s.ipNext length)).goto target) := by
  rw [call, push_plain h, ok_map]

theorem callSegment_eq {s : State} (h : roomBelow s 2 = true) (seg : Byte) (caddr : Word) :
    callSegment s seg caddr =
      .ok { pushed (pushed s (s.csp.setWidth 16)) (s.ipNext 4) with csp := segOf s.cfg.variant seg, ip := caddr } := by
  rw [callSegment, push_plain h, ok_bind, push_plain (roomBelow_pushed h _), ok_bind, res_pure]
  rfl

theorem readW_reg {s : State} {reg : Byte} (h : regReady s reg = true) (hr : canReadW s (regW s reg) = true) :
    readW s (regAddressW s reg) = .ok (s.wordAt (regW s reg)) := by
  rw [readW, regAddressW_eq h, ok_bind', memReadW_eq hr]

theorem setMoveFlags_eq (s : State) (v : Word) : s.setMoveFlags v = s.setFlags (movedFlags s.flags v) := by
  rw [State.setMoveFlags, moveFlags_word]

theorem pushAndCall_eq {s : State} {reg : Byte} (h : roomBelow s 2 = true) (hreg : regReady s reg = true)
    (hr : canReadW s (regW s reg) = true) (caddr : Word) :
    pushAndCall s reg caddr =
      .ok (((pushed (pushed s (s.wordAt (regW s reg))) (s.ipNext 4)).setFlags
        (movedFlags s.flags (s.wordAt (regW s reg)))).goto caddr) := by
  rw [pushAndCall, readW_reg hreg hr, ok_bind, push_plain h, ok_bind, push_plain (roomBelow_pushed h _), ok_bind,
    res_pure, setMoveFlags_eq]
  rfl

theorem exec_calla (s : State) (cc : Nib) (caddr : Word) : exec (.calla cc caddr) s =
    if condition cc s.flags then settle (s.ipNext 4) (call s 4 caddr) else .next (s.goto (s.ipNext 4)) := rfl

theorem exec_calli (s : State) (cc n : Nib) : exec (.calli cc n) s =
    if condition cc s.flags then settle (s.ipNext 2) ((readRw s n).bind (call s 2)) else .next (s.goto (s.ipNext 2)) := rfl

theorem exec_callr (s : State) (rel : Byte) :
    exec (.callr rel) s = settle (s.ipNext 2) (call s 2 (relTarget (s.ipNext 2) rel)) := rfl

theorem exec_calls (s : State) (seg : Byte) (caddr : Word) :
    exec (.calls seg caddr) s = settle (s.ipNext 4) (callSegment s seg caddr) := rfl

theorem exec_pcall (s : State) (reg : Byte) (caddr : Word) :
    exec (.pcall reg caddr) s = settle (s.ipNext 4) (pushAndCall s reg caddr) := rfl

/-! ### PUSH, POP, SCXT, returns -/

theorem pushFrom_eq {s : State} {reg : Byte} (h : roomBelow s 1 = true) (hreg : regReady s reg = true)
    (hr : canReadW s (regW s reg) = true) :
    pushFrom s reg =
      .ok ((pushed s (s.wordAt (regW s reg))).setFlags (movedFlags s.flags (s.wordAt (regW s reg)))) := by
  rw [pushFrom, readW_reg hreg hr, ok_bind, push_plain h, ok_bind, res_pure, setMoveFlags_eq]
  rfl

theorem popToReg_eq {s : State} {reg : Byte} {v : Word} (hreg : regReady s reg = true)
    (hw : canWriteW s (regW s reg) v = true) :
    popToReg s reg v = .ok ((s.putWord (regW s reg) v).setFlagsFor (regW s reg) (movedFlags s.flags v)) := by
  rw [popToReg, moveFlags_word]
  exact toW_eq (regAddressW_eq hreg) hw

/-- The second word popped from a stack in memory. -/
theorem wordAt_popped {s : State} (h : wordsAbove s 2 = true) :
    (popped s).wordAt (stackAbove (popped s) 0) = s.wordAt (stackAbove s 1) := by
  have plain : isPlain s (stackAbove s 1) = true := plain_above h (by decide)
  rw [stackAbove_popped, wordAt_plain plain, wordAt_plain (s := popped s) plain]
  rfl

theorem popInto_eq {s : State} {reg : Byte} (h : wordsAbove s 1 = true) (hreg : regReady s reg = true)
    (hw : canWriteW s (regW s reg) (s.wordAt (stackAbove s 0)) = true) :
    popInto s reg =
      .ok (((popped s).putWord (regW s reg) (s.wordAt (stackAbove s 0))).setFlagsFor (regW s reg)
        (movedFlags s.flags (s.wordAt (stackAbove s 0)))) := by
  rw [popInto, pop_plain h, ok_bind]
  exact popToReg_eq (s := popped s) hreg hw

theorem returnAndPop_eq {s : State} {reg : Byte} {v : Word} (h : wordsAbove s 2 = true) (hreg : regReady s reg = true)
    (hv : v = s.wordAt (stackAbove s 1)) (hw : canWriteW s (regW s reg) v = true) :
    returnAndPop s reg =
      .ok ((((popped (popped s)).putWord (regW s reg) v).setFlagsFor (regW s reg) (movedFlags s.flags v)).goto
        (s.wordAt (stackAbove s 0))) := by
  have second : (popped s).wordAt (stackAbove (popped s) 0) = v := by rw [wordAt_popped h, hv]
  rw [returnAndPop, pop_plain h, ok_bind]
  dsimp only
  rw [pop_plain (wordsAbove_popped h), ok_bind, second]
  dsimp only
  rw [popToReg_eq (s := popped (popped s)) hreg hw, ok_bind, res_pure]
  rfl

theorem returnSegment_eq {s : State} (h : wordsAbove s 2 = true) :
    returnSegment s =
      .ok { popped (popped s) with
            ip := s.wordAt (stackAbove s 0), csp := segOf s.cfg.variant ((s.wordAt (stackAbove s 1)).setWidth 8) } := by
  rw [returnSegment, pop_plain h, ok_bind]
  dsimp only
  rw [pop_plain (wordsAbove_popped h), ok_bind, wordAt_popped h]
  rfl

theorem returnNear_eq {s : State} (h : wordsAbove s 1 = true) :
    returnNear s = .ok ((popped s).goto (s.wordAt (stackAbove s 0))) := by
  rw [returnNear, pop_plain h, ok_map]

/-- SCXT, given what its push and its source answer. -/
theorem switchContext_eq {s u : State} {reg : Byte} {source : Res (Word × State)} {new : Word} {pa : Nat}
    (hreg : regReady s reg = true) (hr : canReadW s (regW s reg) = true) (hs : source = .ok (new, s))
    (hp : push s (s.wordAt (regW s reg)) = .ok u) (ha : regAddressW u reg = .ok pa) :
    switchContext s reg source = memWriteW u pa new := by
  rw [switchContext, regAddressW_eq hreg, ok_bind, memReadW_eq hr, ok_bind, hs, ok_bind]
  dsimp only
  rw [hp, ok_bind, ha, ok_bind]

/-- SCXT on a stack in memory writes the register that it pushed. -/
theorem switchContext_plain {s : State} {reg : Byte} {source : Res (Word × State)} {new : Word}
    (hreg : regReady s reg = true) (hr : canReadW s (regW s reg) = true) (hs : source = .ok (new, s))
    (h : roomBelow s 1 = true) (hw : canWriteW s (regW s reg) new = true) :
    switchContext s reg source = .ok ((pushed s (s.wordAt (regW s reg))).putWord (regW s reg) new) := by
  rw [switchContext_eq hreg hr hs (push_plain h _) (regAddressW_eq (s := pushed s _) hreg)]
  exact memWriteW_eq hw

/-- A GPR as a `reg` operand. -/
theorem regW_gpr {s : State} {reg : Byte} (h : 0xF0 ≤ reg.toNat) : regW s reg = s.gprAddress (lo reg) := by
  rw [regW, if_neg (Nat.not_lt.2 h)]

theorem regReady_of_bank {s : State} (h : bankReady s = true) (reg : Byte) : regReady s reg = true := by
  rw [regReady, h, Bool.or_true]

/-- A push that lands on CP moves the bank. -/
theorem push_onto_cp {s : State} {v : Word} (hp : place s.cfg (stackBelow s 1) = .sfr .cp)
    (hw : canWriteW s (stackBelow s 1) v = true) :
    push s v = .ok ({ s with sp := s.sp - 2, cp := v }.markWord (stackBelow s 1)) := by
  have located : place { s with sp := s.sp - 2 }.cfg (s.sp - 2).toNat = .sfr .cp := hp
  rw [push_eq hw, State.putWord, located]
  rfl

/-- SCXT whose push lands on CP writes the GPR of the new bank. -/
theorem switchContext_moved {s moved : State} {reg : Byte} {source : Res (Word × State)} {new : Word}
    (hg : 0xF0 ≤ reg.toNat) (hb : bankReady s = true) (hs : source = .ok (new, s))
    (hp : push s (s.gpr (lo reg)) = .ok moved) (hm : bankReady moved = true) :
    switchContext s reg source = .ok (moved.storeWord (moved.gprAddress (lo reg)) new) := by
  have old : s.wordAt (regW s reg) = s.gpr (lo reg) := by rw [regW_gpr hg]; rfl
  have readable : canReadW s (regW s reg) = true := by rw [regW_gpr hg]; exact canReadW_gpr hb _
  have address : regAddressW moved reg = .ok (moved.gprAddress (lo reg)) := by
    rw [regAddressW_eq (regReady_of_bank hm reg), regW_gpr hg]
  rw [switchContext_eq (regReady_of_bank hb reg) readable hs (by rw [old]; exact hp) address]
  exact memWriteW_gpr hm _ _

theorem exec_scxtRegData16 (s : State) (reg : Byte) (d : Word) :
    exec (.scxtRegData16 reg d) s = complete 4 s (switchContext s reg (fromConst 16 s d)) := rfl

theorem exec_scxtRegMem (s : State) (reg : Byte) (mem : Word) :
    exec (.scxtRegMem reg mem) s = complete 4 s (switchContext s reg (fromMemW s mem)) := rfl

theorem exec_push (s : State) (reg : Byte) : exec (.push reg) s = complete 2 s (pushFrom s reg) := rfl

theorem exec_pop (s : State) (reg : Byte) : exec (.pop reg) s = complete 2 s (popInto s reg) := rfl

theorem exec_ret (s : State) : exec .ret s = settle (s.ipNext 2) (returnNear s) := rfl

theorem exec_rets (s : State) : exec .rets s = settle (s.ipNext 2) (returnSegment s) := rfl

theorem exec_retp (s : State) (reg : Byte) : exec (.retp reg) s = settle (s.ipNext 2) (returnAndPop s reg) := rfl

theorem exec_reti (s : State) : exec .reti s = settle (s.ipNext 2) (returnFromInterrupt s) := rfl

theorem exec_trap (s : State) (t7 : BitVec 7) : exec (.trap t7) s =
    settle (s.ipNext 2) (saveAndVector s (pswWord s.cfg s.psw) t7 (s.ipNext 2)) := rfl

/-! ### TRAP and RETI -/

theorem exec_trap_segmented {s : State} (hs : s.segmentationDisabled = false) (h : roomBelow s 3 = true)
    (t7 : BitVec 7) : exec (.trap t7) s =
      .next { (({ s with sp := s.sp - 6 }.storeWord (stackBelow s 1) (s.readSfr .psw)).storeWord (stackBelow s 2)
        (s.csp.setWidth 16)).storeWord (stackBelow s 3) (s.ip + 2) with
          csp := 0, ip := BitVec.ofNat 16 (4 * t7.toNat) } := by
  rw [exec_trap, saveAndVector_segmented hs h, settle_ok, ← vector_eq]
  have three := pushed_three s (pswWord s.cfg s.psw) (s.csp.setWidth 16) (s.ip + 2)
  exact congrArg (fun u : State => Host.Outcome.next { u with csp := 0, ip := 4 * t7.setWidth 16 }) three

theorem exec_trap_flat {s : State} (hs : s.segmentationDisabled = true) (h : roomBelow s 2 = true)
    (t7 : BitVec 7) : exec (.trap t7) s =
      .next { ({ s with sp := s.sp - 4 }.storeWord (stackBelow s 1) (s.readSfr .psw)).storeWord (stackBelow s 2)
        (s.ip + 2) with ip := BitVec.ofNat 16 (4 * t7.toNat) } := by
  rw [exec_trap, saveAndVector_flat hs h, settle_ok, ← vector_eq, pushed_two]
  rfl

theorem exec_reti_segmented {s : State} (hs : s.segmentationDisabled = false) (h : wordsAbove s 3 = true) :
    exec .reti s =
      .next { s with sp := s.sp + 6, ip := s.wordAt (stackAbove s 0)
                     csp := segOf s.cfg.variant ((s.wordAt (stackAbove s 1)).setWidth 8)
                     psw := pswOf s.cfg (s.wordAt (stackAbove s 2)) } := by
  rw [exec_reti, returnFromInterrupt_segmented hs h, settle_ok, popped_three]
  rfl

theorem exec_reti_flat {s : State} (hs : s.segmentationDisabled = true) (h : wordsAbove s 2 = true) :
    exec .reti s =
      .next { s with sp := s.sp + 4, ip := s.wordAt (stackAbove s 0)
                     psw := pswOf s.cfg (s.wordAt (stackAbove s 1)) } := by
  rw [exec_reti, returnFromInterrupt_flat hs h, settle_ok, popped_two]

end Sys2Proof.Machine

namespace Sys2Proof.Proofs

open Sys2Proof.Machine

/-- Settles O25: the template writes and branches on the wanted bit, and only sets the flags on the other. -/
theorem bitJumpsThatChangeTheBit : Obligations.BitJumpsThatChangeTheBit := by
  unfold Obligations.BitJumpsThatChangeTheBit
  rintro s b p rel h pa rfl hr w rfl f rfl
  refine ⟨fun hb hw => ?jbcTaken, fun hb => ?jbcUntaken, fun hb hw => ?jnbsTaken, fun hb => ?jnbsUntaken⟩
  case jbcTaken => rw [exec_jbc, jumpOnBitAndChange_taken h hr hb hw, settle_ok, hb]; rfl
  case jbcUntaken => rw [exec_jbc, jumpOnBitAndChange_untaken h hr hb, settle_ok, hb]; rfl
  case jnbsTaken => rw [exec_jnbs, jumpOnBitAndChange_taken h hr hb hw, settle_ok, hb]; rfl
  case jnbsUntaken => rw [exec_jnbs, jumpOnBitAndChange_untaken h hr hb, settle_ok, hb]; rfl

/-- Settles O26: the three calls are one push and a branch; a condition that fails only moves on. -/
theorem callsWithinSegment : Obligations.CallsWithinSegment := by
  unfold Obligations.CallsWithinSegment
  rintro s pushing rfl
  refine ⟨fun cc caddr h => ?calla, fun cc n h => ?calli, fun rel h => ?callr⟩
  case calla =>
    rw [exec_calla]
    by_cases taken : condition cc s.flags = true
    · rw [if_pos taken, if_pos taken, call_eq (h taken), settle_ok]
      rfl
    · rw [if_neg taken, if_neg taken]
      rfl
  case calli =>
    rw [exec_calli]
    by_cases taken : condition cc s.flags = true
    · obtain ⟨room, bank⟩ := h taken
      rw [if_pos taken, if_pos taken, readRw_eq bank, ok_bind', call_eq room, settle_ok]
      rfl
    · rw [if_neg taken, if_neg taken]
      rfl
  case callr =>
    rw [exec_callr, call_eq h, settle_ok, relTarget_ipNext]
    rfl

/-- Settles O27: two pushes and a branch. -/
theorem callsThatPushTwoWords : Obligations.CallsThatPushTwoWords := by
  unfold Obligations.CallsThatPushTwoWords
  rintro s h pushing rfl
  refine ⟨fun seg caddr => ?calls, fun reg caddr hreg hr v hv => ?pcall⟩
  case calls =>
    rw [exec_calls, callSegment_eq h, settle_ok, pushed_two]
    rfl
  case pcall =>
    rw [exec_pcall, pushAndCall_eq h hreg hr, settle_ok, pushed_two, hv]
    rfl

/-- Settles O28: the two ends of the entry, with CSP pushed or not. -/
theorem softwareTrapEntry : Obligations.SoftwareTrapEntry := by
  unfold Obligations.SoftwareTrapEntry
  exact fun s t7 => ⟨fun hs h => exec_trap_segmented hs h t7, fun hs h => exec_trap_flat hs h t7⟩

/-- Settles O29: PUSH is a push of the word read before, POP a write of the popped word after SP has moved. -/
theorem pushAndPop : Obligations.PushAndPop := by
  unfold Obligations.PushAndPop
  refine ⟨fun s reg hreg hr h v hv => ?push, fun s reg hreg h v hv hw => ?pop⟩
  case push =>
    rw [exec_push, pushFrom_eq h hreg hr, complete_ok, hv]
    rfl
  case pop =>
    subst hv
    rw [exec_pop, popInto_eq h hreg hw]
    exact completes_word (u := popped s) rfl (movedResult s.flags _)

/-- Settles O30: the push leaves the register's address as it was, unless it lands on CP. -/
theorem contextSwitch : Obligations.ContextSwitch := by
  unfold Obligations.ContextSwitch
  constructor
  · rintro s reg hreg hr h pushing rfl
    refine ⟨fun d hw => ?data, fun mem hm v hv hw => ?mem⟩
    case data =>
      rw [exec_scxtRegData16, switchContext_plain hreg hr (fromConst_same s d) h hw, complete_ok]
      rfl
    case mem =>
      subst hv
      rw [exec_scxtRegMem, switchContext_plain hreg hr (fromMemW_eq hm) h hw, complete_ok]
      rfl
  · rintro s reg hg hb hp hw moved rfl hm
    refine ⟨fun d => ?dataMoved, fun mem hr => ?memMoved⟩
    case dataMoved =>
      rw [exec_scxtRegData16, switchContext_moved hg hb (fromConst_same s d) (push_onto_cp hp hw) hm, complete_ok]
      rfl
    case memMoved =>
      rw [exec_scxtRegMem, switchContext_moved hg hb (fromMemW_eq hr) (push_onto_cp hp hw) hm, complete_ok]
      rfl

/-- Settles O31: one pop, two pops, and two pops with a register write. -/
theorem returns : Obligations.Returns := by
  unfold Obligations.Returns
  refine ⟨fun s h => ?ret, fun s h => ?rets, fun s reg hreg h v hv hw => ?retp⟩
  case ret =>
    rw [exec_ret, returnNear_eq h, settle_ok]
    rfl
  case rets =>
    rw [exec_rets, returnSegment_eq h, settle_ok, popped_two]
  case retp =>
    rw [exec_retp, returnAndPop_eq h hreg hv hw, settle_ok, popped_two]
    exact ⟨_, rfl, rfl⟩

/-- Settles O32: the two ends of RETI, with CSP popped or not. -/
theorem returnFromInterrupt : Obligations.ReturnFromInterrupt := by
  unfold Obligations.ReturnFromInterrupt
  exact fun s => ⟨exec_reti_segmented, exec_reti_flat⟩

end Sys2Proof.Proofs
end

section
/-! PROOFS of the statements about 46_stack_return.md R377 with 45_jump_call.md R356: RETI undoes TRAP. -/

namespace Sys2Proof.Machine

/-! ### The stack after three pushes, seen from its new top -/

theorem isPlainWord_congr {s t : State} (h : t.cfg = s.cfg) (pa : Nat) : isPlainWord t pa = isPlainWord s pa := by
  simp only [isPlainWord, isPlain, h]

theorem stackAbove_eq_below {s t : State} {j k : Nat} (hsp : t.sp = s.sp - BitVec.ofNat 16 (2 * k)) (hj : j ≤ k) :
    stackAbove t j = stackBelow s (k - j) := by
  have split : BitVec.ofNat 16 (2 * k) = BitVec.ofNat 16 (2 * (k - j)) + BitVec.ofNat 16 (2 * j) := by
    rw [← BitVec.ofNat_add]
    congr 1
    omega
  have moved : s.sp - BitVec.ofNat 16 (2 * k) + BitVec.ofNat 16 (2 * j) = s.sp - BitVec.ofNat 16 (2 * (k - j)) := by
    rw [split]
    ring
  rw [stackAbove, hsp, moved, stackBelow]

/-- The words pushed can be popped. -/
theorem wordsAbove_of_roomBelow {s t : State} {k : Nat} (h : roomBelow s k = true) (hcfg : t.cfg = s.cfg)
    (hsp : t.sp = s.sp - BitVec.ofNat 16 (2 * k)) : wordsAbove t k = true := by
  have even : t.sp.toNat % 2 = 0 := by rw [hsp]; exact even_sub_twice (roomBelow_even h) k
  have plain : ∀ j < k, isPlainWord t (stackAbove t j) = true := by
    intro j hj
    have index : k - j = (k - j - 1) + 1 := by omega
    rw [stackAbove_eq_below hsp (Nat.le_of_lt hj), isPlainWord_congr hcfg, index]
    exact plainWord_below h (by omega)
  simp only [wordsAbove, even, beq_self_eq_true, Bool.true_and, List.all_eq_true, List.mem_range]
  exact plain

theorem stackBelow_ne (s : State) {i j : Nat} (hi : i ≤ 3) (hj : j ≤ 3) (hij : i ≠ j) : stackBelow s i ≠ stackBelow s j := by
  have bound := s.sp.isLt
  simp only [stackBelow, BitVec.toNat_sub, BitVec.toNat_ofNat]
  omega

/-! ### What three pushes leave in memory -/

section ThreeWords

variable {s base : State} {v w x : Word} (he : s.sp.toNat % 2 = 0)
include he

theorem memWord_second :
    (((base.storeWord (stackBelow s 1) v).storeWord (stackBelow s 2) w).storeWord (stackBelow s 3) x).memWord
      (stackBelow s 2) = w := by
  rw [memWord_storeWord_even (stackBelow_even he 3) (stackBelow_even he 2),
    if_neg (stackBelow_ne s (by decide) (by decide) (by decide)), memWord_storeWord_same]

theorem memWord_first :
    (((base.storeWord (stackBelow s 1) v).storeWord (stackBelow s 2) w).storeWord (stackBelow s 3) x).memWord
      (stackBelow s 1) = v := by
  rw [memWord_storeWord_even (stackBelow_even he 3) (stackBelow_even he 1),
    if_neg (stackBelow_ne s (by decide) (by decide) (by decide)),
    memWord_storeWord_even (stackBelow_even he 2) (stackBelow_even he 1),
    if_neg (stackBelow_ne s (by decide) (by decide) (by decide)), memWord_storeWord_same]

theorem memWord_first_of_two :
    ((base.storeWord (stackBelow s 1) v).storeWord (stackBelow s 2) w).memWord (stackBelow s 1) = v := by
  rw [memWord_storeWord_even (stackBelow_even he 2) (stackBelow_even he 1),
    if_neg (stackBelow_ne s (by decide) (by decide) (by decide)), memWord_storeWord_same]

end ThreeWords

/-! ### The round trip -/

/-- What is restored: PSW and CSP come back because the invariant says that they are as they are stored. -/
theorem psw_restored {s : State} (i : StateInv s) : pswOf s.cfg (s.readSfr .psw) = s.psw := by
  have legal : layoutLegal s.cfg = true := by
    have := i.config
    simp only [configLegal, Bool.and_eq_true] at this
    exact this.2
  exact (pswOf_pswWord legal s.psw).trans i.psw

theorem csp_restored {s : State} (i : StateInv s) :
    segOf s.cfg.variant ((s.csp.setWidth 16 : Word).setWidth 8) = s.csp := by
  have same : (s.csp.setWidth 16 : Word).setWidth 8 = s.csp := by
    apply BitVec.eq_of_toNat_eq
    have := s.csp.isLt
    rw [BitVec.toNat_setWidth, BitVec.toNat_setWidth]
    omega
  rw [same, i.csp]

/-- A word of memory is read as it stands. -/
theorem wordAt_of_plainWord {s : State} {pa : Nat} (h : isPlainWord s pa = true) : s.wordAt pa = s.memWord pa :=
  wordAt_plain (plain_of_plainWord h).1

/-- RETI in a state that holds the three words of a TRAP below the old SP. -/
theorem exec_reti_restores {s t : State} (i : StateInv s) (h : roomBelow s 3 = true)
    (hseg : s.segmentationDisabled = false)
    (ht : t = { s with sp := s.sp - 6, csp := 0, ip := t.ip, mem := t.mem, stored := t.stored })
    (first : t.memWord (stackBelow s 1) = s.readSfr .psw) (second : t.memWord (stackBelow s 2) = s.csp.setWidth 16)
    (third : t.memWord (stackBelow s 3) = s.ip + 2) :
    exec .reti t = .next { s with ip := s.ip + 2, mem := t.mem, stored := t.stored } := by
  have cfg : t.cfg = s.cfg := by rw [ht]
  have sp : t.sp = s.sp - BitVec.ofNat 16 (2 * 3) := by rw [ht]; rfl
  have words := wordsAbove_of_roomBelow h cfg sp
  have flat : t.segmentationDisabled = false := by rw [ht]; exact hseg
  have popped : ∀ j < 3, t.wordAt (stackAbove t j) = t.memWord (stackBelow s (3 - j)) := fun j hj => by
    rw [wordAt_of_plainWord (plainWord_above words hj), stackAbove_eq_below sp (Nat.le_of_lt hj)]
  rw [exec_reti_segmented flat words, popped 0 (by decide), popped 1 (by decide), popped 2 (by decide), first, second,
    third, cfg, psw_restored i, csp_restored i]
  have restored : t.sp + 6 = s.sp := by rw [sp]; exact BitVec.sub_add_cancel _ _
  rw [restored, ht]

/-- RETI, with segmentation disabled, in a state that holds the two words of a TRAP below the old SP. -/
theorem exec_reti_restores_flat {s t : State} (i : StateInv s) (h : roomBelow s 2 = true)
    (hseg : s.segmentationDisabled = true)
    (ht : t = { s with sp := s.sp - 4, ip := t.ip, mem := t.mem, stored := t.stored })
    (first : t.memWord (stackBelow s 1) = s.readSfr .psw) (second : t.memWord (stackBelow s 2) = s.ip + 2) :
    exec .reti t = .next { s with ip := s.ip + 2, mem := t.mem, stored := t.stored } := by
  have cfg : t.cfg = s.cfg := by rw [ht]
  have sp : t.sp = s.sp - BitVec.ofNat 16 (2 * 2) := by rw [ht]; rfl
  have words := wordsAbove_of_roomBelow h cfg sp
  have flat : t.segmentationDisabled = true := by rw [ht]; exact hseg
  have popped : ∀ j < 2, t.wordAt (stackAbove t j) = t.memWord (stackBelow s (2 - j)) := fun j hj => by
    rw [wordAt_of_plainWord (plainWord_above words hj), stackAbove_eq_below sp (Nat.le_of_lt hj)]
  rw [exec_reti_flat flat words, popped 0 (by decide), popped 1 (by decide), first, second, cfg, psw_restored i]
  have restored : t.sp + 4 = s.sp := by rw [sp]; exact BitVec.sub_add_cancel _ _
  rw [restored, ht]

end Sys2Proof.Machine

namespace Sys2Proof.Proofs

open Sys2Proof.Machine

/-- Settles O33: the words that TRAP pushed are the words that RETI pops, three or two of them, and the invariant makes
PSW and CSP come back from their words. -/
theorem trapThenReturnRestores : Obligations.TrapThenReturnRestores := by
  unfold Obligations.TrapThenReturnRestores
  intro s t7 i h
  have even := roomBelow_even h
  cases hseg : s.segmentationDisabled with
  | false =>
    refine ⟨_, exec_trap_segmented hseg h t7, _,
      exec_reti_restores i h hseg rfl (memWord_first even) (memWord_second even) (memWord_storeWord_same _ _ _), rfl, ?_⟩
    intro a ha
    obtain ⟨h1, h1'⟩ := ha 0 (by decide)
    obtain ⟨h2, h2'⟩ := ha 1 (by decide)
    obtain ⟨h3, h3'⟩ := ha 2 (by decide)
    exact (Memory.read_writeWord_other h3 h3').trans
      ((Memory.read_writeWord_other h2 h2').trans (Memory.read_writeWord_other h1 h1'))
  | true =>
    have h2 := roomBelow_mono h (show 2 ≤ 3 by decide)
    refine ⟨_, exec_trap_flat hseg h2 t7, _,
      exec_reti_restores_flat i h2 hseg rfl (memWord_first_of_two even) (memWord_storeWord_same _ _ _), rfl, ?_⟩
    intro a ha
    obtain ⟨h1, h1'⟩ := ha 0 (by decide)
    obtain ⟨h2, h2'⟩ := ha 1 (by decide)
    exact (Memory.read_writeWord_other h2 h2').trans (Memory.read_writeWord_other h1 h1')

end Sys2Proof.Proofs
end

section
/-! PROOFS of the statements about addresses: the bits of a segment number, the translation of data addresses, the
ranges of the short addresses, and words in memory. -/

namespace Sys2Proof.Machine

/-! ### Bits side by side -/

theorem toNat_append_eq {a b : Nat} (x : BitVec a) (y : BitVec b) : (x ++ y).toNat = x.toNat * 2 ^ b + y.toNat := by
  rw [BitVec.toNat_append, ← Nat.shiftLeft_add_eq_or_of_lt y.isLt, Nat.shiftLeft_eq]

theorem toNat_extractLow {w : Nat} (x : BitVec w) (n : Nat) : (x.extractLsb' 0 n).toNat = x.toNat % 2 ^ n := by
  rw [BitVec.extractLsb'_toNat, Nat.shiftRight_zero]

theorem toNat_lo (b : Byte) : (lo b).toNat = b.toNat % 16 := toNat_extractLow b 4

/-! ### Segments and pages -/

/-- A segment number keeps the low bits that the device group has. -/
theorem segOf_getLsbD (v : Variant) (seg : Byte) (j : Nat) :
    (segOf v seg).getLsbD j = (decide (j < segBits v) && seg.getLsbD j) := by
  have out : 8 ≤ j → seg.getLsbD j = false := BitVec.getLsbD_of_ge seg j
  rw [segOf, BitVec.getLsbD_ofNat, Nat.testBit_mod_two_pow, BitVec.testBit_toNat]
  by_cases h : j < 8
  · simp [h]
  · simp [h, out (by omega)]

/-- An offset in a page of as many bits as the device group has. -/
theorem pageAddress_eq {v : Variant} {w k : Nat} (hk : pageBits v = k) (page : BitVec w) (la : Word) :
    pageAddress v page.toNat la = (page.extractLsb' 0 k ++ la.extractLsb' 0 14).toNat := by
  rw [toNat_append_eq, toNat_extractLow, toNat_extractLow, pageAddress, hk]

theorem segmentAddress_c167 (g : Byte) (la : Word) : segmentAddress .c167 g la = (g ++ la).toNat := by
  rw [toNat_append_eq, segmentAddress, toNat_segOf, segBits, Nat.mod_eq_of_lt g.isLt]

/-- The DPP register by the two upper bits of the address. -/
theorem dppFor_eq (s : State) (la : Word) :
    s.dppFor la = if la.extractLsb' 14 2 = 0 then s.dpp0 else if la.extractLsb' 14 2 = 1 then s.dpp1
      else if la.extractLsb' 14 2 = 2 then s.dpp2 else s.dpp3 := by
  have sel (k : BitVec 2) : la.extractLsb' 14 2 = k ↔ la.toNat / 2 ^ 14 = k.toNat := by
    have := la.isLt
    rw [← BitVec.toNat_inj, BitVec.extractLsb'_toNat, Nat.shiftRight_eq_div_pow,
      Nat.mod_eq_of_lt (by omega : la.toNat / 2 ^ 14 < 2 ^ 2)]
  unfold State.dppFor
  split
  · next h => rw [if_pos ((sel 0).2 h)]
  · next h => rw [if_neg (by rw [sel, h]; decide), if_pos ((sel 1).2 h)]
  · next h => rw [if_neg (by rw [sel, h]; decide), if_neg (by rw [sel, h]; decide), if_pos ((sel 2).2 h)]
  · next h0 h1 h2 => rw [if_neg (h0 ∘ (sel 0).1), if_neg (h1 ∘ (sel 1).1), if_neg (h2 ∘ (sel 2).1)]

theorem physData_page {s : State} {la : Word} {p : BitVec 10} (h : s.extData = .page p) :
    s.physData la = pageAddress s.cfg.variant p.toNat la := by simp [State.physData, h]

theorem physData_segment {s : State} {la : Word} {g : Byte} (h : s.extData = .segment g) :
    s.physData la = segmentAddress s.cfg.variant g la := by simp [State.physData, h]

theorem physData_none {s : State} {la : Word} (h : s.extData = .none) :
    s.physData la = pageAddress s.cfg.variant (s.dppFor la).toNat la := by simp [State.physData, h]

/-! ### Short addresses -/

theorem regAddressW_sfr {s : State} {b : Byte} (h : b.toNat < 0xF0) :
    regAddressW s b = .ok ((if s.extSfr = .extended then 0xF000 else 0xFE00) + 2 * b.toNat) := by
  simp only [regAddressW, h, if_true, State.regSfrAddress]
  cases s.extSfr <;> rfl

theorem regAddressB_sfr {s : State} {b : Byte} (h : b.toNat < 0xF0) : regAddressB s b = regAddressW s b := by
  simp [regAddressB, regAddressW, h]

/-- The word GPR of a short address of at least F0H. -/
theorem rwAddress_lo {s : State} {b : Byte} (h : 0xF0 ≤ b.toNat) (hc : cpLegal s.cp = true) :
    rwAddress s (lo b) = .ok (s.cp.toNat + 2 * (b.toNat - 0xF0)) := by
  have := b.isLt
  rw [rwAddress_eq hc, State.gprAddress, toNat_lo, show b.toNat % 16 = b.toNat - 0xF0 by omega]

/-- The byte GPR of a short address of at least F0H. -/
theorem rbAddress_lo {s : State} {b : Byte} (h : 0xF0 ≤ b.toNat) (hc : cpLegal s.cp = true) :
    rbAddress s (lo b) = .ok (s.cp.toNat + (b.toNat - 0xF0)) := by
  have := b.isLt
  rw [rbAddress_eq hc, State.gprByteAddress, toNat_lo, show b.toNat % 16 = b.toNat - 0xF0 by omega]

theorem bitoffAddress_sfr {s : State} {b : Byte} (h : 0x80 ≤ b.toNat) (h' : b.toNat < 0xF0) :
    bitoffAddress s b = .ok ((if s.extSfr = .extended then 0xF100 else 0xFF00) + 2 * (b.toNat - 0x80)) := by
  have hm : b.toNat % 0x80 = b.toNat - 0x80 := by omega
  simp only [bitoffAddress, show ¬b.toNat ≤ 0x7F by omega, show b.toNat ≤ 0xEF by omega, if_true, if_false, hm]
  cases s.extSfr <;> rfl

/-! ### Words in memory -/

theorem lowByte_eq (v : Word) : lowByte v = v.setWidth 8 := by
  apply BitVec.eq_of_toNat_eq
  rw [lowByte, toNat_extractLow, BitVec.toNat_setWidth]

theorem highByte_eq (v : Word) : highByte v = (v >>> 8).setWidth 8 := by
  apply BitVec.eq_of_toNat_eq
  rw [highByte, BitVec.extractLsb'_toNat, BitVec.toNat_setWidth, BitVec.toNat_ushiftRight]

/-- A word of memory at an even address takes every store. -/
theorem memWriteW_plain {s : State} {pa : Nat} (h : isPlainWord s pa = true) (he : pa % 2 = 0) (v : Word) :
    memWriteW s pa v = .ok (s.storeWord pa v) := by
  rw [memWriteW_eq (canWriteW_plain he h), putWord_plain (plain_of_plainWord h).1]

theorem memReadW_plain {s : State} {pa : Nat} (h : isPlainWord s pa = true) (he : pa % 2 = 0) :
    memReadW s pa = .ok (s.memWord pa) := by
  rw [memReadW_eq (canReadW_plain he h), wordAt_plain (plain_of_plainWord h).1]

end Sys2Proof.Machine

namespace Sys2Proof.Proofs
open Sys2Proof.Machine

/-- Settles O23. -/
theorem segmentNumberBits : Obligations.SegmentNumberBits := by
  unfold Obligations.SegmentNumberBits
  refine fun seg j => ⟨?_, segOf_getLsbD .sab8xc166 seg j⟩
  have out : 8 ≤ j → seg.getLsbD j = false := BitVec.getLsbD_of_ge seg j
  rw [segOf_getLsbD, segBits]
  by_cases h : j < 8
  · simp [h]
  · simp [out (by omega)]

/-- Settles O45. -/
theorem littleEndianWords : Obligations.LittleEndianWords := by
  unfold Obligations.LittleEndianWords
  intro s pa v hp he
  have hp' : isPlainWord (s.storeWord pa v) pa = true := hp
  refine ⟨s.storeWord pa v, by rw [memWriteW_plain hp he, settle_ok], ?_, ?_, ?_, ?_⟩
  · rw [memReadW_plain hp' he, memWord_storeWord_same]
  · rw [memByte_storeWord_low, lowByte_eq]
  · rw [memByte_storeWord_high, highByte_eq]
  · exact fun a h h' => Memory.read_writeWord_other h h'

/-- Settles O46, by the number that concatenated bits denote. -/
theorem dataAddressTranslation : Obligations.DataAddressTranslation := by
  unfold Obligations.DataAddressTranslation
  intro s la dpp hdpp
  rw [← dppFor_eq] at hdpp
  subst hdpp
  refine ⟨fun hv => ⟨fun h => ?_, fun p h => ?_, fun g h => ?_⟩, fun hv h => ?_⟩
  · rw [physData_none h, hv]
    exact pageAddress_eq rfl _ la
  · have all : p.extractLsb' 0 10 = p := BitVec.eq_of_toNat_eq (by rw [toNat_extractLow, Nat.mod_eq_of_lt p.isLt])
    rw [physData_page h, hv, pageAddress_eq (k := 10) rfl p la, all]
  · rw [physData_segment h, hv, segmentAddress_c167]
  · have key : s.physData la = ((s.dppFor la).extractLsb' 0 4 ++ la.extractLsb' 0 14).toNat := by
      rw [physData_none h, hv]
      exact pageAddress_eq rfl _ la
    exact ⟨key, key ▸ BitVec.isLt _⟩

/-- Settles O47. -/
theorem shortAddressRanges : Obligations.ShortAddressRanges := by
  unfold Obligations.ShortAddressRanges
  refine fun s b => ⟨fun h => ⟨regAddressW_sfr h, regAddressB_sfr h⟩, fun h hc => ?_, fun h => ?_, bitoffAddress_sfr⟩
  · have hn : ¬b.toNat < 0xF0 := by omega
    refine ⟨?_, ?_, ?_⟩
    · rw [regAddressW, if_neg hn, rwAddress_lo h hc]
    · rw [regAddressB, if_neg hn, rbAddress_lo h hc]
    · rw [bitoffAddress, if_neg (by omega), if_neg (by omega), rwAddress_lo h hc]
  · rw [bitoffAddress, if_pos h]

end Sys2Proof.Proofs
end

section
/-! PROOFS of the statements about accesses: PSW as a destination, bytes of SFR words, odd word accesses, and what is
refused and remembered. -/

namespace Sys2Proof.Machine

/-! ### A byte in its word -/

theorem wordOfByte_eq (v : Byte) (pa : Nat) :
    wordOfByte v pa = if pa % 2 = 0 then v.setWidth 16 else v.setWidth 16 <<< 8 := by
  have := v.isLt
  unfold wordOfByte
  split
  · apply BitVec.eq_of_toNat_eq
    rw [toNat_append_eq, BitVec.toNat_setWidth]
    simp
    omega
  · apply BitVec.eq_of_toNat_eq
    rw [toNat_append_eq, BitVec.toNat_shiftLeft, BitVec.toNat_setWidth, Nat.shiftLeft_eq]
    simp; omega

theorem byteOfWord_wordOfByte (v : Byte) (pa : Nat) : byteOfWord (wordOfByte v pa) pa = v := by
  have := v.isLt
  unfold byteOfWord wordOfByte
  split
  · apply BitVec.eq_of_toNat_eq
    rw [lowByte, toNat_extractLow, toNat_append_eq]
    simp
    omega
  · apply BitVec.eq_of_toNat_eq
    rw [highByte, BitVec.extractLsb'_toNat, toNat_append_eq, Nat.shiftRight_eq_div_pow]
    simp; omega

/-! ### Registers as words -/

@[simp] theorem readSfr_markWord (s : State) (pa : Nat) (r : CpuSfr) : (s.markWord pa).readSfr r = s.readSfr r := by
  cases r <;> rfl

/-- The registers that keep the word written. -/
theorem readSfr_writeSfr_same {r : CpuSfr} (hz : r ≠ .zeros) (ho : r ≠ .ones) (hc : r ≠ .csp) (hp : r ≠ .psw) (s : State)
    (v : Word) : (s.writeSfr r v).readSfr r = v := by
  cases r <;> first | contradiction | rfl

/-- A write to one register leaves every other one. -/
theorem readSfr_writeSfr_other {q r : CpuSfr} (h : q ≠ r) (s : State) (v : Word) :
    (s.writeSfr r v).readSfr q = s.readSfr q := by
  cases r <;> cases q <;> first | contradiction | rfl

/-! ### Writes to the places that are no memory -/

section Places

variable {s : State} {pa : Nat}

theorem putWord_sfr {r : CpuSfr} (h : place s.cfg pa = .sfr r) (v : Word) :
    s.putWord pa v = (s.writeSfr r v).markWord pa := by simp [State.putWord, h]

theorem putByte_sfr {r : CpuSfr} (h : place s.cfg pa = .sfr r) (v : Byte) :
    s.putByte pa v = (s.writeSfr r (wordOfByte v pa)).markWord (wordAddress pa) := by simp [State.putByte, h]

theorem wordAt_sfr {r : CpuSfr} (h : place s.cfg pa = .sfr r) : s.wordAt pa = s.readSfr r := by simp [State.wordAt, h]

theorem byteAt_sfr {r : CpuSfr} (h : place s.cfg pa = .sfr r) : s.byteAt pa = byteOfWord (s.readSfr r) pa := by
  simp [State.byteAt, h]

theorem takesWrite_sfr {r : CpuSfr} (h : place s.cfg pa = .sfr r) (hr : r ≠ .cp) (v : Word) :
    takesWrite s.cfg pa v = true := by
  cases r <;> first | contradiction | simp [takesWrite, h]

theorem accessible_of_takesWrite {v : Word} (h : takesWrite s.cfg pa v = true) : accessible s.cfg pa = true := by
  unfold takesWrite at h
  unfold accessible
  split at h <;> simp_all

theorem canReadW_of_canWriteW {v : Word} (h : canWriteW s pa v = true) : canReadW s pa = true := by
  simp only [canWriteW, canReadW, Bool.and_eq_true] at h ⊢
  exact ⟨h.1, accessible_of_takesWrite h.2.1, accessible_of_takesWrite h.2.2⟩

/-- A byte written to a platform's SFR word is written as the word beside it 0, through the device's function if it has
one. -/
theorem memWriteB_device {v : Byte} {word : Word}
    (h : place s.cfg pa = .device ∧ word = wordOfByte v pa ∨
      place s.cfg pa = .peripheral ∧
        word = Config.deviceWrite (wordAddress pa) (s.memWord (wordAddress pa)) (wordOfByte v pa)) :
    memWriteB s pa v = .ok (s.storeWord (wordAddress pa) word) := by
  obtain ⟨hp, rfl⟩ | ⟨hp, rfl⟩ := h
  · rw [memWriteB_eq (by simp [canWriteB, takesWrite, hp])]
    simp [State.putByte, hp]
  · rw [memWriteB_eq (by simp [canWriteB, takesWrite, hp])]
    simp [State.putByte, hp, State.storeDevice]

/-! ### What stops an access -/

theorem readStop_absent {r : Refusal} (h : place s.cfg pa = .absent r) : s.readStop pa = some (.refuse r) := by
  simp [State.readStop, h]

theorem writeStop_absent {r : Refusal} (h : place s.cfg pa = .absent r) (v : Word) :
    s.writeStop pa v = some (.refuse r) := by simp [State.writeStop, h]

theorem writeStop_rom (h : place s.cfg pa = .rom) (v : Word) : s.writeStop pa v = some (.refuse (.romWrite pa)) := by
  simp [State.writeStop, h]

theorem writeStop_cp (h : place s.cfg pa = .sfr .cp) {v : Word} (hv : cpLegal v = false) :
    s.writeStop pa v = some (.refuse (.contextPointer v)) := by simp [State.writeStop, h, hv]

theorem memReadB_stop {e : Stop} (h : s.readStop pa = some e) : memReadB s pa = .error e := by
  simp [memReadB, h, unlessStopped]

theorem memWriteB_stop {e : Stop} {v : Byte} (h : s.writeStop pa (wordOfByte v pa) = some e) :
    memWriteB s pa v = .error e := by simp [memWriteB, h, unlessStopped]

/-- The even byte stops the read of a word. -/
theorem memReadW_stop_even {e : Stop} (he : pa % 2 = 0) (h : s.readStop pa = some e) : memReadW s pa = .error e := by
  simp [memReadW, oddStop_eq_none.2 he, h, unlessStopped]

/-- The odd byte stops the read of a word whose even byte is there. -/
theorem memReadW_stop_odd {e : Stop} (he : pa % 2 = 0) (ha : accessible s.cfg pa = true)
    (h : s.readStop (pa + 1) = some e) : memReadW s pa = .error e := by
  simp [memReadW, oddStop_eq_none.2 he, readStop_eq_none.2 ha, h, unlessStopped]

theorem memWriteW_stop_even {e : Stop} {v : Word} (he : pa % 2 = 0) (h : s.writeStop pa v = some e) :
    memWriteW s pa v = .error e := by
  simp [memWriteW, oddStop_eq_none.2 he, h, unlessStopped]

theorem memWriteW_stop_odd {e : Stop} {v : Word} (he : pa % 2 = 0) (ha : takesWrite s.cfg pa v = true)
    (h : s.writeStop (pa + 1) v = some e) : memWriteW s pa v = .error e := by
  simp [memWriteW, oddStop_eq_none.2 he, writeStop_eq_none.2 ha, h, unlessStopped]

theorem memReadW_odd (h : pa % 2 = 1) : memReadW s pa = .error (.trap (.illegalWordOperandAccess pa) s) := by
  simp [memReadW, State.oddStop, h, unlessStopped]

theorem memWriteW_odd (h : pa % 2 = 1) (v : Word) :
    memWriteW s pa v = .error (.trap (.illegalWordOperandAccess pa) s) := by
  simp [memWriteW, State.oddStop, h, unlessStopped]

/-- What a byte write remembers besides its own byte. -/
theorem putByte_stored_of_mem {a : Nat} (h : a ∈ s.stored) (v : Byte) : a ∈ (s.putByte pa v).stored := by
  have hw (r : CpuSfr) (x : Word) : (s.writeSfr r x).stored = s.stored := by cases r <;> rfl
  unfold State.putByte
  split
  · simp [mem_markStored, hw, h]
  · simp [mem_markStored, h]
  · simp [State.storeDevice, mem_markStored, h]
  · simp [mem_markStored, h]

end Places

theorem cpLegal_eq_true {v : Word} : cpLegal v = true ↔ v.toNat % 2 = 0 ∧ v.toNat ≤ 0xFFE0 := by
  simp [cpLegal]

/-! ### An odd access inside an instruction -/

theorem complete_trap (length : Nat) (s u : State) (t : Trap) :
    complete length s (.error (.trap t u)) = raiseTrap u t (s.ipNext length) := rfl

/-- The state in which a store through a pointer traps: one free value was drawn where the store would fall on the pointer's
own word. -/
theorem finishThroughW_odd {s : State} {pa : Nat} (h : pa % 2 = 1) (own : Bool) (r : Flagged 16) :
    finishThroughW s own pa r =
      .error (.trap (.illegalWordOperandAccess pa) (if own then s.drawWord.2 else s)) := by
  cases own <;> simp [finishThroughW, storedThroughW, finishW, memWriteW_odd h]

section Odd

variable {s : State} {n m : Nib} {pa : Nat} (odd : pa % 2 = 1) (h : bankReady s = true)
include odd h

theorem readIndW_odd (hp : pa = s.physData (s.gpr m)) :
    readIndW s m = .error (.trap (.illegalWordOperandAccess pa) s) := by
  subst hp
  simp [readIndW, readRw_eq h, readThroughW, memReadW_odd odd]

theorem exec_movRwInd_odd (hp : pa = s.physData (s.gpr m)) :
    exec (.movRwInd n m) s = raiseTrap s (.illegalWordOperandAccess pa) (s.ip + 2) := by
  change complete 2 s (moveW (readIndW s m) (toW (rwAddress · n))) = _
  rw [readIndW_odd odd h hp, moveW, error_bind, complete_trap]
  rfl

theorem exec_movIndRw_odd (hp : pa = s.physData (s.gpr m)) :
    exec (.movIndRw m n) s =
      raiseTrap (if s.ownWord m pa then s.drawWord.2 else s) (.illegalWordOperandAccess pa) (s.ip + 2) := by
  subst hp
  change complete 2 s (moveW (fromRw s n) (finishIndW · m)) = _
  rw [moveW_eq (fromRw_eq h n), finishIndW, readRw_eq h, ok_bind]
  dsimp only
  rw [finishThroughW_odd odd, complete_trap]
  rfl

end Odd

theorem pop_odd {s : State} (h : s.sp.toNat % 2 = 1) :
    pop s = .error (.trap (.illegalWordOperandAccess s.sp.toNat) s) := by
  rw [pop, memReadW_odd h, error_map]

theorem exec_pop_odd {s : State} (h : s.sp.toNat % 2 = 1) (reg : Byte) :
    exec (.pop reg) s = raiseTrap s (.illegalWordOperandAccess s.sp.toNat) (s.ip + 2) := by
  rw [exec_pop, popInto, pop_odd h, error_bind, complete_trap]
  rfl

theorem exec_ret_odd {s : State} (h : s.sp.toNat % 2 = 1) :
    exec .ret s = raiseTrap s (.illegalWordOperandAccess s.sp.toNat) (s.ip + 2) := by
  rw [exec_ret, returnNear, pop_odd h]
  rfl

theorem exec_addRegMem_odd {s : State} {mem : Word} (h : s.physData mem % 2 = 1) (reg : Byte) :
    exec (.addRegMem reg mem) s = raiseTrap s (.illegalWordOperandAccess (s.physData mem)) (s.ip + 4) := by
  change complete 4 s (aluW .add s.flags (fromMemW s mem) (regAddressW · reg)) = _
  rw [fromMemW, memReadW_odd h, error_map, aluW, error_bind, complete_trap]
  rfl

theorem exec_push_odd {s : State} {reg : Byte} (h : (s.sp - 2).toNat % 2 = 1) (hreg : regReady s reg = true)
    (hr : canReadW s (regW s reg) = true) : exec (.push reg) s =
      raiseTrap { s with sp := s.sp - 2 } (.illegalWordOperandAccess (s.sp - 2).toNat) (s.ip + 2) := by
  rw [exec_push, pushFrom, readW_reg hreg hr, ok_bind, push, memWriteW_odd h]
  rfl

end Sys2Proof.Machine

namespace Sys2Proof.Proofs
open Sys2Proof.Machine

/-- Settles O43: the write reaches PSW, and the flag update asks whether it did. -/
theorem pswAsDestination : Obligations.PswAsDestination := by
  unfold Obligations.PswAsDestination
  intro s pa h
  have hp : place s.cfg pa = .sfr .psw := by simpa [isPsw] using h
  refine ⟨fun r hw => ?_, fun r => ?_⟩
  · rw [finishW_eq hw, setFlagsFor_psw (by rwa [putWord_cfg]), putWord_sfr hp]
    rfl
  · rw [finishB_eq (takesWrite_sfr hp (by decide) _), setFlagsFor_psw (by rwa [putByte_cfg]), putByte_sfr hp,
      wordOfByte_eq]
    rfl

/-- Settles O44, place by place. -/
theorem sfrByteWriteClearsOtherByte : Obligations.SfrByteWriteClearsOtherByte := by
  unfold Obligations.SfrByteWriteClearsOtherByte
  intro s pa v w hw
  rw [← wordOfByte_eq] at hw
  subst hw
  refine ⟨fun r hp hz ho hc hpsw hw => ?_, fun hp => ?_, ?_, fun hp => ?_, fun r hp hr x hw => ?_⟩
  · have hp' : place ((s.writeSfr r (wordOfByte v pa)).markWord (wordAddress pa)).cfg pa = .sfr r := by
      simpa using hp
    have value := readSfr_writeSfr_same hz ho hc hpsw s (wordOfByte v pa)
    refine ⟨_, by rw [memWriteB_eq hw, putByte_sfr hp, settle_ok], ?_, ?_⟩
    · rw [byteAt_sfr hp', readSfr_markWord, value, byteOfWord_wordOfByte]
    · rw [readSfr_markWord, value]
  · exact ⟨_, by rw [memWriteB_eq (takesWrite_sfr hp (by decide) _), putByte_sfr hp, settle_ok], rfl, rfl⟩
  · rintro u rfl word hp
    refine ⟨s.storeWord (wordAddress pa) word, by rw [memWriteB_device hp, settle_ok], memWord_storeWord_same _ _ _, ?_⟩
    exact fun a ha ha' => Memory.read_writeWord_other ha ha'
  · refine ⟨_, by rw [memWriteB_eq (takesWrite_of_plain hp), putByte_plain hp, settle_ok], ?_, ?_⟩
    · exact memByte_storeByte_same s pa v
    · exact fun a ha => Memory.read_write_other ha
  · have hp' : place ((s.writeSfr r x).markWord pa).cfg pa = .sfr r := by simpa using hp
    have hread : canReadW ((s.writeSfr r x).markWord pa) pa = true := by
      simpa [canReadW] using canReadW_of_canWriteW hw
    have value : (s.writeSfr r x).readSfr r = x := by
      apply readSfr_writeSfr_same <;> rintro rfl <;> simp at hr
    refine ⟨_, by rw [memWriteW_eq hw, putWord_sfr hp, settle_ok], ?_, fun q hq => ?_, ?_, ?_⟩
    · rw [memReadW_eq hread, wordAt_sfr hp', readSfr_markWord, value]
    · rw [readSfr_markWord, readSfr_writeSfr_other hq]
    · rw [markWord_mem, writeSfr_mem]
    · rw [markWord_ip, writeSfr_ip]

/-- Settles O48. -/
theorem oddWordAccessTraps : Obligations.OddWordAccessTraps := by
  unfold Obligations.OddWordAccessTraps
  intro s pa odd
  refine ⟨fun v => memWriteW_odd odd v, memReadW_odd odd, fun n m h entry hp => ⟨?_, ?_⟩, ?_, fun n m h hp => ⟨?_, ?_⟩, ?_,
    ?_, ?_⟩
  · rw [exec_movRwInd_odd odd h hp, raiseTrap_terminal entry]
  · rw [exec_movIndRw_odd odd h hp, raiseTrap_terminal (by split <;> exact entry)]
  · rintro reg rfl entry
    rw [exec_pop_odd odd, exec_ret_odd odd, raiseTrap_terminal entry]
    exact ⟨rfl, rfl⟩
  · exact exec_movRwInd_odd odd h hp
  · intro ho
    rw [exec_movIndRw_odd odd h hp, ho]
    rfl
  · rintro reg mem rfl
    exact exec_addRegMem_odd odd reg
  · rintro reg rfl
    exact ⟨exec_pop_odd odd reg, exec_ret_odd odd⟩
  · rintro reg rfl hreg hr
    exact exec_push_odd odd hreg hr

/-- Settles O53, clause by clause. -/
theorem refusedAccesses : Obligations.RefusedAccesses := by
  unfold Obligations.RefusedAccesses
  intro s pa
  refine ⟨fun r hp => ⟨memReadB_stop (readStop_absent hp), fun v => memWriteB_stop (writeStop_absent hp _), fun he =>
      ⟨memReadW_stop_even he (readStop_absent hp), fun v => memWriteW_stop_even he (writeStop_absent hp v)⟩⟩,
    fun r he hp => ⟨fun ha => memReadW_stop_odd he ha (readStop_absent hp),
      fun v ha => memWriteW_stop_odd he ha (writeStop_absent hp v)⟩,
    fun hp => ⟨fun v => memWriteB_stop (writeStop_rom hp _), ?_, fun he => ⟨fun ha => ?_, fun v =>
      memWriteW_stop_even he (writeStop_rom hp v)⟩⟩,
    fun he hp v ha => memWriteW_stop_odd he ha (writeStop_rom hp v), fun hp he v => ⟨fun hv => ?_, fun hv hv' ha => ?_⟩,
    fun v t h a => ?_, fun v t h => ?_, fun f n m h => ⟨rfl, rfl, ?_⟩, ?_⟩
  · rw [memReadB_eq (by simp [canReadB, accessible, hp])]
    simp [State.byteAt, hp]
  · rw [memReadW_eq (by simp [canReadW, accessible, he, hp] at ha ⊢; exact ha)]
    simp [State.wordAt, hp]
  · refine memWriteW_stop_even he (writeStop_cp hp ?_)
    rw [Bool.eq_false_iff, Ne, cpLegal_eq_true]
    omega
  · have legal : takesWrite s.cfg pa v = true := by simpa [takesWrite, hp] using cpLegal_eq_true.2 ⟨hv, hv'⟩
    rw [memWriteW_eq (by simp [canWriteW, he, legal, ha]), putWord_sfr hp]
    rfl
  · obtain ⟨-, rfl⟩ := memWriteW_ok h
    rw [putWord_stored, mem_markStored, mem_markStored]
    tauto
  · obtain ⟨-, rfl⟩ := memWriteB_ok h
    exact ⟨putByte_stored s pa v, fun a ha => putByte_stored_of_mem ha v⟩
  · rw [exec_mul]
    exact (multiply_completes h mulSigned n m).mono fun t ⟨_, _, _, frame⟩ => by rw [frame]
  · rintro ip rfl h
    have hit : (s.stored.contains (s.fetchAddress ip) || s.stored.contains (s.fetchAddress ip + 1)) = true := by
      simpa using h
    simp only [fetchWord, hit, if_true]

end Sys2Proof.Proofs
end

section
/-! PROOFS of the statements about requests and traps: the entry of a hardware trap, of an interrupt and of the NMI, and
PEC transfers (60_exceptions.md R421 to R436). -/

namespace Sys2Proof.Machine

/-! ### What the entry of a routine leaves -/

/-- `o` is the entry of routine `number` at `level` from `s` with return address `back` (60_exceptions.md R421). -/
def Enters (s : State) (o : Host.Outcome State Fault Refusal) (number : BitVec 7) (back : Word) (level : Nib) : Prop :=
  let entered := fun (t : State) =>
    t.ip = BitVec.ofNat 16 (4 * number.toNat) ∧ t.level = level ∧ t.flags = s.flags ∧
      t.psw.extractLsb' 0 12 = s.psw.extractLsb' 0 12
  (s.segmentationDisabled = false → roomBelow s 3 → Completes o (fun t => entered t ∧
    t = { (({ s with sp := s.sp - 6 }.storeWord (stackBelow s 1) (s.readSfr .psw)).storeWord (stackBelow s 2)
      (s.csp.setWidth 16)).storeWord (stackBelow s 3) back with csp := 0, ip := t.ip, psw := t.psw })) ∧
  (s.segmentationDisabled = true → roomBelow s 2 → Completes o (fun t => entered t ∧
    t = { ({ s with sp := s.sp - 4 }.storeWord (stackBelow s 1) (s.readSfr .psw)).storeWord (stackBelow s 2) back with
          ip := t.ip, psw := t.psw }))

/-- An outcome that is the entry whenever the entry succeeds. -/
theorem enters_of_enter {s : State} {o : Host.Outcome State Fault Refusal} {number : BitVec 7} {back : Word} {level : Nib}
    (ho : ∀ u, enter s number back level = .ok u → o = .next u) : Enters s o number back level := by
  have psw := And.intro (level_pswWithLevel s.psw level)
    (And.intro (flags_pswWithLevel s.psw level) (low_pswWithLevel s.psw level))
  exact ⟨fun hs room => ⟨_, ho _ (enter_segmented hs room number back level), ⟨rfl, psw⟩, rfl⟩,
    fun hs room => ⟨_, ho _ (enter_flat hs room number back level), ⟨rfl, psw⟩, rfl⟩⟩

/-- The entry of a class B trap that was raised or had waited, alone or behind a pending NMI. -/
theorem enters_of_enterRaised {s : State} {o : Host.Outcome State Fault Refusal} {trap : Trap} {back : Word}
    (ho : ∀ u, enterRaised s trap back = .ok u → o = .next u) {number : BitVec 7} {tfr : Word} {waiting : List Request}
    (hc : (.nmi ∉ s.pending ∧ number = trapNumber s.cfg.trapVectors trap ∧ tfr = s.tfr ∧
          waiting = s.pending.filter (fun r => !r.isClassB)) ∨
        (.nmi ∈ s.pending ∧ number = s.cfg.trapVectors.nmi ∧ tfr = s.tfr ||| 0x8000 ∧
          waiting = s.pending.erase .nmi ++ [.classB trap])) :
    Enters { s with tfr := tfr, pending := waiting } o number back 15 := by
  obtain ⟨alone, rfl, rfl, rfl⟩ | ⟨behind, rfl, rfl, rfl⟩ := hc
  · exact enters_of_enter fun u hu => ho u ((enterRaised_alone alone trap back).trans hu)
  · exact enters_of_enter fun u hu => ho u ((enterRaised_behind behind trap back).trans hu)

/-! ### Which request is served -/

theorem nextRequest_nmi {s : State} (hc : s.seqCount = 0) (h : .nmi ∈ s.pending) : nextRequest s = some .nmi := by
  simp [nextRequest, hc, h]

/-- Without an NMI and a class B trap that can be entered the oldest acceptable request is served. -/
theorem nextRequest_first {s : State} {before after : List Request} {r : Request}
    (hp : s.pending = before ++ r :: after) (hb : ∀ q ∈ before, acceptable s q = false) (hr : acceptable s r = true)
    (nmi : .nmi ∉ s.pending) (classB : ∀ trap, .classB trap ∈ s.pending → acceptable s (.classB trap) = false) :
    nextRequest s = some r := by
  have waiting : s.pending.find? (fun q => q.isClassB && acceptable s q) = none := by
    rw [List.find?_eq_none]
    intro q hq
    cases q with
    | classB trap => simp [classB trap hq]
    | interrupt number level => simp [Request.isClassB]
    | nmi => simp [Request.isClassB]
    | pecWord source destination => simp [Request.isClassB]
    | pecByte source destination => simp [Request.isClassB]
  have none_before : before.find? (acceptable s) = none := by
    rw [List.find?_eq_none]
    intro q hq
    simp [hb q hq]
  have first : s.pending.find? (acceptable s) = some r := by
    rw [hp, List.find?_append, none_before, Option.none_or, List.find?_cons_of_pos hr]
  simp [nextRequest, nmi, waiting, first]

/-! ### What the step does about it -/

section Served

variable {s : State} (hrun : s.runState = .running) (hreset : resetRequested s = false)
include hrun hreset

theorem step_nmi (h : nextRequest s = some .nmi) : step s = accept { s with tfr := s.tfr ||| flagAhead s } .nmi := by
  rw [step_running hreset hrun, runningStep, h]

/-- A class B trap of the instruction at IP comes before any request but the NMI. -/
theorem step_trapAhead {r : Request} (h : nextRequest s = some r) (hr : r ≠ .nmi) (ht : trapAhead s ≠ none) :
    step s = instructionStep s := by
  rw [step_running hreset hrun, runningStep, h]
  cases r with
  | nmi => contradiction
  | _ => simp [Option.isSome_iff_ne_none.2 ht]

theorem step_accept {r : Request} (h : nextRequest s = some r) (hr : r ≠ .nmi) (ht : trapAhead s = none) :
    step s = accept s r := by
  rw [step_running hreset hrun, runningStep, h]
  cases r with
  | nmi => contradiction
  | _ => simp [ht]

end Served

theorem accept_of_serve (s : State) (r : Request) {u : State} (h : serve { s with pending := s.pending.erase r } r = .ok u) :
    accept s r = .next u := by
  rw [accept, h, settle_ok]

/-- Where a trap ends the run, the trap ahead is the one that the instruction ends the run with. -/
theorem trapAhead_terminal {s : State} (h : s.cfg.hwTrapEntry = false) (trap : Trap) :
    trapAhead s = some trap ↔ instructionStep s = .fault (.hardwareTrap trap) := by
  have same : ({ s with cfg := { s.cfg with hwTrapEntry := false } } : State) = s := by rw [← h]
  rw [trapAhead, same]
  split <;> simp_all

theorem flagAhead_some {s : State} {trap : Trap} (h : s.cfg.hwTrapEntry = true) (ht : trapAhead s = some trap) :
    flagAhead s = trapFlag trap := by
  simp [flagAhead, h, ht]

theorem flagAhead_none {s : State} (h : s.cfg.hwTrapEntry = false ∨ trapAhead s = none) : flagAhead s = 0#16 := by
  unfold flagAhead
  split <;> simp_all

/-! ### PEC transfers -/

theorem pecAddress_eq (s : State) (a : BitVec 24) :
    pecAddress s a = a.toNat % 2 ^ (if s.cfg.variant = .c167 then 24 else 18) := by
  unfold pecAddress paBits
  cases s.cfg.variant <;> rfl

theorem accept_pecWord {s : State} {source destination : BitVec 24} (hr : canReadW s (pecAddress s source) = true)
    (he : pecAddress s destination % 2 = 0) (hw : isPlainWord s (pecAddress s destination) = true) :
    accept s (.pecWord source destination) =
      .next { s.storeWord (pecAddress s destination) (s.wordAt (pecAddress s source)) with
              pending := s.pending.erase (.pecWord source destination) } := by
  let u : State := { s with pending := s.pending.erase (.pecWord source destination) }
  have read : memReadW u (pecAddress s source) = .ok (s.wordAt (pecAddress s source)) := memReadW_eq (s := u) hr
  have write (v : Word) : memWriteW u (pecAddress s destination) v = .ok (u.storeWord (pecAddress s destination) v) :=
    memWriteW_plain (s := u) hw he v
  refine accept_of_serve _ _ ?_
  change (memReadW u (pecAddress s source) >>= memWriteW u (pecAddress s destination)) = _
  rw [read, ok_bind, write]
  rfl

theorem accept_pecByte {s : State} {source destination : BitVec 24} (hr : canReadB s (pecAddress s source) = true)
    (hw : isPlain s (pecAddress s destination) = true) :
    accept s (.pecByte source destination) =
      .next { s.storeByte (pecAddress s destination) (s.byteAt (pecAddress s source)) with
              pending := s.pending.erase (.pecByte source destination) } := by
  let u : State := { s with pending := s.pending.erase (.pecByte source destination) }
  have read : memReadB u (pecAddress s source) = .ok (s.byteAt (pecAddress s source)) := memReadB_eq (s := u) hr
  have write (v : Byte) : memWriteB u (pecAddress s destination) v = .ok (u.storeByte (pecAddress s destination) v) := by
    rw [memWriteB_eq (takesWrite_of_plain (s := u) hw), putByte_plain (s := u) hw]
  refine accept_of_serve _ _ ?_
  change (memReadB u (pecAddress s source) >>= memWriteB u (pecAddress s destination)) = _
  rw [read, ok_bind, write]
  rfl

end Sys2Proof.Machine

namespace Sys2Proof.Proofs
open Sys2Proof.Machine

/-- Settles O49: raised or waiting, the trap goes through the same entry. -/
theorem hardwareTrapEntry : Obligations.HardwareTrapEntry := by
  unfold Obligations.HardwareTrapEntry
  intro s trap ret
  refine ⟨fun h => raiseTrap_terminal h trap ret, fun h number tfr waiting hc => ?_, fun hrun hreset hn =>
    ⟨fun ht => step_trapAhead hrun hreset hn (by simp) ht, fun ht number tfr waiting hc => ?_⟩⟩
  · exact enters_of_enterRaised (s := { s.endSequence with tfr := s.tfr ||| trapFlag trap })
      (fun u hu => raiseTrap_entered h hu) hc
  · have queue (r : Request) (hr : r ≠ .classB trap) : r ∈ s.pending.erase (.classB trap) ↔ r ∈ s.pending :=
      List.mem_erase_of_ne hr
    rw [step_accept hrun hreset hn (by simp) ht]
    refine enters_of_enterRaised (s := { s.endSequence with pending := s.pending.erase (.classB trap) })
      (fun u hu => accept_of_serve s (.classB trap) hu) ?_
    change (.nmi ∉ s.pending.erase (.classB trap) ∧ _) ∨ (.nmi ∈ s.pending.erase (.classB trap) ∧ _)
    rwa [queue .nmi (by simp), filter_erase_classB]

/-- Settles O50. -/
theorem interruptEntry : Obligations.InterruptEntry := by
  unfold Obligations.InterruptEntry
  intro s number level
  refine ⟨by simp [acceptable], fun before after hp hb hr nmi classB => ?_, fun h => trapAhead_terminal h,
    fun hrun hreset hn => ⟨fun ht => step_trapAhead hrun hreset hn (by simp) ht, ?_⟩⟩
  · exact nextRequest_first hp hb hr nmi fun trap h => absurd h (classB trap)
  · rintro ht rest rfl
    rw [step_accept hrun hreset hn (by simp) ht]
    exact enters_of_enter (s := { s with pending := s.pending.erase (.interrupt number level) })
      fun u hu => accept_of_serve s (.interrupt number level) hu

/-- Settles O51. -/
theorem nmiAndPecService : Obligations.NmiAndPecService := by
  unfold Obligations.NmiAndPecService
  intro s hrun hreset
  refine ⟨fun hc nmi => ⟨nextRequest_nmi hc nmi, ?_⟩, fun src dst r hr => ?_, ?_⟩
  · rintro tfr htfr rest rfl
    have flag : tfr = s.tfr ||| flagAhead s ||| 0x8000 := by
      obtain ⟨entry, trap, ht, rfl⟩ | ⟨quiet, rfl⟩ := htfr
      · rw [flagAhead_some entry ht]
      · rw [flagAhead_none quiet, BitVec.or_zero]
    rw [step_nmi hrun hreset (nextRequest_nmi hc nmi), flag]
    exact enters_of_enter (s := { s with tfr := s.tfr ||| flagAhead s ||| 0x8000, pending := s.pending.erase .nmi })
      fun u hu => accept_of_serve { s with tfr := s.tfr ||| flagAhead s } .nmi hu
  · have free : acceptable s r = true ↔ s.seqCount = 0 := by
      obtain rfl | rfl := hr <;> simp [acceptable]
    refine ⟨free, fun before after hp hb hc nmi classB => ?_⟩
    refine nextRequest_first hp hb (free.2 hc) nmi fun trap h => ?_
    simp [acceptable, classB trap h]
  · rintro src dst a d ha hd ht
    rw [← pecAddress_eq] at ha hd
    subst ha hd
    refine ⟨fun hn hr he hw => ?_, fun hn hr hw => ?_⟩
    · rw [step_accept hrun hreset hn (by simp) ht, accept_pecWord hr he hw]
    · rw [step_accept hrun hreset hn (by simp) ht, accept_pecByte hr hw]

end Sys2Proof.Proofs
end

section
/-! PROOFS of the statement about pointer forms on every overlap (20_memory.md R96, log 8): whatever the free values are, only
the destination and the pointer that moves are written. -/

namespace Sys2Proof.Machine

/-! ### Operations that answer -/

/-- The operation answers, and what holds of its answer. -/
def Yields {α : Type} (r : Res α) (holds : α → Prop) : Prop := ∃ a, r = .ok a ∧ holds a

theorem Yields.bind {α β : Type} {r : Res α} {f : α → Res β} {P : α → Prop} {Q : β → Prop} (h : Yields r P)
    (k : ∀ a, P a → Yields (f a) Q) : Yields (r >>= f) Q := by
  obtain ⟨a, rfl, ha⟩ := h
  exact k a ha

theorem Yields.map {α β : Type} {r : Res α} {f : α → β} {P : α → Prop} {Q : β → Prop} (h : Yields r P)
    (k : ∀ a, P a → Q (f a)) : Yields (r.map f) Q := by
  obtain ⟨a, rfl, ha⟩ := h
  exact ⟨f a, rfl, k a ha⟩

theorem Yields.mono {α : Type} {r : Res α} {P Q : α → Prop} (h : Yields r P) (k : ∀ a, P a → Q a) : Yields r Q := by
  obtain ⟨a, ha, hp⟩ := h
  exact ⟨a, ha, k a hp⟩

/-- A read leaves the state, so that it answers is all there is to say. -/
theorem yields_of_ok {α : Type} {r : Res α} {a : α} (h : r = .ok a) : Yields r (fun _ => True) := ⟨a, h, trivial⟩

/-! ### What is written -/

/-- Only flags, the listed bytes of memory, the marks of stores and the count of free values changed. -/
structure Only (s : State) (changed : List Nat) (t : State) : Prop where
  frame : t = { s with psw := t.psw, mem := t.mem, stored := t.stored, freeCount := t.freeCount }
  system : SameSystemBits s t
  memory : ∀ a, a ∉ changed → t.mem.read a = s.mem.read a

/-- The two bytes of a word GPR. -/
def State.wordBytes (s : State) (n : Nib) : List Nat := [s.gprAddress n, s.gprAddress n + 1]

namespace Only

variable {s t u : State} {c : List Nat}

theorem refl (s : State) (c : List Nat) : Only s c s := ⟨rfl, rfl, fun _ _ => rfl⟩

theorem trans (h : Only s c t) (h' : Only t c u) : Only s c u where
  frame := h'.frame.trans (congrArg (fun x : State =>
    { x with psw := u.psw, mem := u.mem, stored := u.stored, freeCount := u.freeCount }) h.frame)
  system := Eq.trans h'.system h.system
  memory a ha := (h'.memory a ha).trans (h.memory a ha)

theorem mono {d : List Nat} (h : Only s c t) (sub : c ⊆ d) : Only s d t :=
  ⟨h.frame, h.system, fun a ha => h.memory a fun hc => ha (sub hc)⟩

theorem cfg (h : Only s c t) : t.cfg = s.cfg := by rw [h.frame]

theorem bank (h : Only s c t) (hb : bankReady s = true) : bankReady t = true := by rw [h.frame]; exact hb

theorem gprAddress (h : Only s c t) (n : Nib) : t.gprAddress n = s.gprAddress n := by rw [h.frame]; rfl

theorem gprByteAddress (h : Only s c t) (n : Nib) : t.gprByteAddress n = s.gprByteAddress n := by rw [h.frame]; rfl

theorem physData (h : Only s c t) (la : Word) : t.physData la = s.physData la := by rw [h.frame]; rfl

theorem isPlain (h : Only s c t) (pa : Nat) : isPlain t pa = isPlain s pa := by simp only [Machine.isPlain, h.cfg]

theorem isPlainWord (h : Only s c t) (pa : Nat) : isPlainWord t pa = isPlainWord s pa := by
  simp only [Machine.isPlainWord, h.isPlain]

theorem canReadW (h : Only s c t) (pa : Nat) : canReadW t pa = canReadW s pa := by
  simp only [Machine.canReadW, h.cfg]

theorem canReadB (h : Only s c t) (pa : Nat) : canReadB t pa = canReadB s pa := by
  simp only [Machine.canReadB, h.cfg]

/-- A word GPR none of whose bytes was written. -/
theorem gpr (h : Only s c t) (hb : bankReady s = true) {n : Nib} (h0 : s.gprAddress n ∉ c) (h1 : s.gprAddress n + 1 ∉ c) :
    t.gpr n = s.gpr n := by
  have hp := plain_gpr hb n
  rw [State.gpr, State.gpr, h.gprAddress, wordAt_plain hp, wordAt_plain (by rwa [h.isPlain])]
  exact memWord_congr (h.memory _ h0) (h.memory _ h1) h.cfg

theorem gpr_of_nil (h : Only s [] t) (hb : bankReady s = true) (n : Nib) : t.gpr n = s.gpr n :=
  h.gpr hb List.not_mem_nil List.not_mem_nil

theorem gpr_of_other {n m : Nib} (h : Only s (s.wordBytes m) t) (hb : bankReady s = true) (hnm : n ≠ m) :
    t.gpr n = s.gpr n := by
  have apart : n.toNat ≠ m.toNat := fun e => hnm (BitVec.eq_of_toNat_eq e)
  apply h.gpr hb <;> simp only [State.wordBytes, State.gprAddress, List.mem_cons, List.not_mem_nil, or_false] <;> omega

/-! #### The single operations -/

theorem setFlags (h : Only s c t) (f : Flags) : Only s c (t.setFlags f) :=
  h.trans ⟨rfl, system_pswWithFlags t.psw f, fun _ _ => rfl⟩

theorem setFlagsFor (h : Only s c t) (pa : Nat) (f : Flags) : Only s c (t.setFlagsFor pa f) := by
  unfold State.setFlagsFor
  split
  · exact h
  · exact h.setFlags f

theorem drawWord (h : Only s c t) : Only s c t.drawWord.2 := h.trans ⟨rfl, rfl, fun _ _ => rfl⟩

theorem drawByte (h : Only s c t) : Only s c t.drawByte.2 := h.drawWord

theorem drawBit (h : Only s c t) : Only s c t.drawBit.2 := h.drawWord

theorem storeWord (h : Only s c t) {pa : Nat} (hc : [pa, pa + 1] ⊆ c) (v : Word) : Only s c (t.storeWord pa v) := by
  refine h.trans ⟨rfl, rfl, fun a ha => Memory.read_writeWord_other ?_ ?_⟩ <;> rintro rfl <;> exact ha (hc (by simp))

theorem storeByte (h : Only s c t) {pa : Nat} (hc : pa ∈ c) (v : Byte) : Only s c (t.storeByte pa v) :=
  h.trans ⟨rfl, rfl, fun _ ha => Memory.read_write_other fun e => ha (e ▸ hc)⟩

/-! #### Writes to memory -/

section Writes

variable {pa : Nat} (h : Only s c t)
include h

theorem memWriteW (he : pa % 2 = 0) (hp : Machine.isPlainWord s pa = true) (hc : [pa, pa + 1] ⊆ c) (v : Word) :
    Yields (memWriteW t pa v) (Only s c) :=
  ⟨_, memWriteW_plain (by rwa [h.isPlainWord]) he v, h.storeWord hc v⟩

theorem memWriteB (hp : Machine.isPlain s pa = true) (hc : pa ∈ c) (v : Byte) :
    Yields (memWriteB t pa v) (Only s c) := by
  have hp' : Machine.isPlain t pa = true := by rwa [h.isPlain]
  exact ⟨_, by rw [memWriteB_eq (takesWrite_of_plain hp'), putByte_plain hp'], h.storeByte hc v⟩

theorem finishW (he : pa % 2 = 0) (hp : Machine.isPlainWord s pa = true) (hc : [pa, pa + 1] ⊆ c) (r : Flagged 16) :
    Yields (finishW t pa r) (Only s c) :=
  (h.memWriteW he hp hc r.val).map fun _ hu => hu.setFlagsFor pa r.flags

theorem finishB (hp : Machine.isPlain s pa = true) (hc : pa ∈ c) (r : Flagged 8) :
    Yields (finishB t pa r) (Only s c) :=
  (h.memWriteB hp hc r.val).map fun _ hu => hu.setFlagsFor pa r.flags

theorem finishThroughW (he : pa % 2 = 0) (hp : Machine.isPlainWord s pa = true) (hc : [pa, pa + 1] ⊆ c) (own : Bool)
    (r : Flagged 16) : Yields (finishThroughW t own pa r) (Only s c) := by
  cases own with
  | false => exact h.finishW he hp hc r
  | true => exact h.drawWord.finishW he hp hc _

theorem finishThroughB (hp : Machine.isPlain s pa = true) (hc : pa ∈ c) (own : Bool) (r : Flagged 8) :
    Yields (finishThroughB t own pa r) (Only s c) := by
  cases own with
  | false => exact h.finishB hp hc r
  | true => exact h.drawByte.finishB hp hc _

/-! #### Reads through a pointer -/

theorem readThroughW (hr : Machine.canReadW s pa = true) (f : Nib) :
    Yields (readThroughW t f pa) (fun p => Only s c p.2) := by
  refine (yields_of_ok (memReadW_eq (by rwa [h.canReadW]))).map fun v _ => ?_
  split
  · exact h.drawWord
  · exact h

theorem readThroughB (hr : Machine.canReadB s pa = true) (f : Nib) :
    Yields (readThroughB t f pa) (fun p => Only s c p.2) := by
  refine (yields_of_ok (memReadB_eq (by rwa [h.canReadB]))).map fun v _ => ?_
  split
  · exact h.drawByte
  · exact h

end Writes

theorem toMem {mem : Word} (h : Only s c t) (he : s.physData mem % 2 = 0)
    (hp : Machine.isPlainWord s (s.physData mem) = true) (hc : [s.physData mem, s.physData mem + 1] ⊆ c)
    (r : Flagged 16) : Yields (toW (memAddress · mem) t r) (Only s c) := by
  rw [toW, memAddress, ok_bind, h.physData]
  exact h.finishW he hp hc r

theorem toMemB {mem : Word} (h : Only s c t) (hp : Machine.isPlain s (s.physData mem) = true)
    (hc : s.physData mem ∈ c) (r : Flagged 8) : Yields (toB (memAddress · mem) t r) (Only s c) := by
  rw [toB, memAddress, ok_bind, h.physData]
  exact h.finishB hp hc r

/-! #### GPRs -/

section Bank

variable (h : Only s c t) (hb : bankReady s = true)
include h hb

theorem writeGpr {n : Nib} (hc : s.wordBytes n ⊆ c) (v : Word) :
    Yields (Machine.memWriteW t (s.gprAddress n) v) (Only s c) :=
  h.memWriteW (gprAddress_even (cpLegal_of_bank hb) n) (plainWord_gpr hb n) hc v

theorem rwAddress (n : Nib) : rwAddress t n = .ok (s.gprAddress n) := by
  rw [rwAddress_bank (h.bank hb), h.gprAddress]

theorem rbAddress (n : Nib) : rbAddress t n = .ok (s.gprByteAddress n) := by
  rw [rbAddress_bank (h.bank hb), h.gprByteAddress]

theorem readRw (n : Nib) : readRw t n = .ok (t.gpr n) := readRw_eq (h.bank hb) n

theorem memReadGpr (n : Nib) : memReadW t (s.gprAddress n) = .ok (t.gpr n) := by
  rw [← h.gprAddress, memReadW_gpr (h.bank hb)]

theorem toRw {n : Nib} (hc : s.wordBytes n ⊆ c) (r : Flagged 16) :
    Yields (toW (Machine.rwAddress · n) t r) (Only s c) := by
  rw [toW, h.rwAddress hb, ok_bind]
  exact h.finishW (gprAddress_even (cpLegal_of_bank hb) n) (plainWord_gpr hb n) hc r

theorem toRb {n : Nib} (hc : s.gprByteAddress n ∈ c) (r : Flagged 8) :
    Yields (toB (Machine.rbAddress · n) t r) (Only s c) := by
  rw [toB, h.rbAddress hb, ok_bind]
  exact h.finishB (plain_gprByte hb n) hc r

end Bank

end Only

/-! ### Sources on every overlap -/

section Sources

variable {s : State} {c : List Nat} (hb : bankReady s = true)
include hb

theorem readIndW_only {f : Nib} (hr : canReadW s (s.physData (s.gpr f)) = true) :
    Yields (readIndW s f) (fun p => Only s c p.2) := by
  rw [readIndW, readRw_eq hb, ok_bind]
  exact (Only.refl s c).readThroughW hr f

theorem readIndB_only {f : Nib} (hr : canReadB s (s.physData (s.gpr f)) = true) :
    Yields (readIndB s f) (fun p => Only s c p.2) := by
  rw [readIndB, readRw_eq hb, ok_bind]
  exact (Only.refl s c).readThroughB hr f

theorem readDispW_only {f : Nib} {d : Word} (hr : canReadW s (s.physData (s.gpr f + d)) = true) :
    Yields (readDispW s f d) (fun p => Only s c p.2) := by
  rw [readDispW, readRw_eq hb, ok_bind]
  exact (Only.refl s c).readThroughW hr f

theorem readDispB_only {f : Nib} {d : Word} (hr : canReadB s (s.physData (s.gpr f + d)) = true) :
    Yields (readDispB s f d) (fun p => Only s c p.2) := by
  rw [readDispB, readRw_eq hb, ok_bind]
  exact (Only.refl s c).readThroughB hr f

theorem readIndIncW_only {f : Nib} (hr : canReadW s (s.physData (s.gpr f)) = true) (hc : s.wordBytes f ⊆ c) :
    Yields (readIndIncW s f) (fun p => Only s c p.2) := by
  rw [readIndIncW, rwAddress_bank hb, ok_bind, memReadW_gpr hb, ok_bind]
  exact ((Only.refl s c).readThroughW hr f).bind fun ⟨v, t⟩ ht => (ht.writeGpr hb hc _).map fun u hu => hu

theorem readIndIncB_only {f : Nib} (hr : canReadB s (s.physData (s.gpr f)) = true) (hc : s.wordBytes f ⊆ c) :
    Yields (readIndIncB s f) (fun p => Only s c p.2) := by
  rw [readIndIncB, rwAddress_bank hb, ok_bind, memReadW_gpr hb, ok_bind]
  exact ((Only.refl s c).readThroughB hr f).bind fun ⟨v, t⟩ ht => (ht.writeGpr hb hc _).map fun u hu => hu

end Sources

/-! ### Destinations on every overlap

The state `u` is one in which the pointer still has the value that it had in `s`. -/

namespace Only

section Pointer

variable {s u : State} {c : List Nat} (h : Only s c u) (hb : bankReady s = true) {f : Nib} (hg : u.gpr f = s.gpr f)
  {pa : Nat}
include h hb hg

theorem finishIndW (hpa : pa = s.physData (s.gpr f)) (he : pa % 2 = 0) (hp : Machine.isPlainWord s pa = true)
    (hc : [pa, pa + 1] ⊆ c) (r : Flagged 16) : Yields (finishIndW u f r) (Only s c) := by
  subst hpa
  rw [Machine.finishIndW, h.readRw hb, ok_bind, hg, h.physData]
  exact h.finishThroughW he hp hc _ r

theorem finishIndB (hpa : pa = s.physData (s.gpr f)) (hp : Machine.isPlain s pa = true) (hc : pa ∈ c) (r : Flagged 8) :
    Yields (finishIndB u f r) (Only s c) := by
  subst hpa
  rw [Machine.finishIndB, h.readRw hb, ok_bind, hg, h.physData]
  exact h.finishThroughB hp hc _ r

theorem finishDispW {d : Word} (hpa : pa = s.physData (s.gpr f + d)) (he : pa % 2 = 0)
    (hp : Machine.isPlainWord s pa = true) (hc : [pa, pa + 1] ⊆ c) (r : Flagged 16) :
    Yields (finishDispW u f d r) (Only s c) := by
  subst hpa
  rw [Machine.finishDispW, h.readRw hb, ok_bind, hg, h.physData]
  exact h.finishThroughW he hp hc _ r

theorem finishDispB {d : Word} (hpa : pa = s.physData (s.gpr f + d)) (hp : Machine.isPlain s pa = true) (hc : pa ∈ c)
    (r : Flagged 8) : Yields (finishDispB u f d r) (Only s c) := by
  subst hpa
  rw [Machine.finishDispB, h.readRw hb, ok_bind, hg, h.physData]
  exact h.finishThroughB hp hc _ r

theorem finishPreDecW (hf : s.wordBytes f ⊆ c) (hpa : pa = s.physData (s.gpr f - 2)) (he : pa % 2 = 0)
    (hp : Machine.isPlainWord s pa = true) (hc : [pa, pa + 1] ⊆ c) (r : Flagged 16) :
    Yields (finishPreDecW u f r) (Only s c) := by
  subst hpa
  rw [Machine.finishPreDecW, h.rwAddress hb, ok_bind, h.memReadGpr hb, ok_bind, hg]
  refine (h.writeGpr hb hf _).bind fun t ht => ?_
  dsimp only
  rw [ht.physData]
  exact ht.finishThroughW he hp hc _ r

theorem finishPreDecB (hf : s.wordBytes f ⊆ c) (hpa : pa = s.physData (s.gpr f - 1))
    (hp : Machine.isPlain s pa = true) (hc : pa ∈ c) (r : Flagged 8) : Yields (finishPreDecB u f r) (Only s c) := by
  subst hpa
  rw [Machine.finishPreDecB, h.rwAddress hb, ok_bind, h.memReadGpr hb, ok_bind, hg]
  refine (h.writeGpr hb hf _).bind fun t ht => ?_
  dsimp only
  rw [ht.physData]
  exact ht.finishThroughB hp hc _ r

omit hb hg in
theorem afterIncrement (unclear : Bool) (la step : Word) : Only s c (afterIncrement u unclear la step).2 := by
  cases unclear with
  | false => exact h
  | true => exact h.drawWord

theorem finishIndIncW (hf : s.wordBytes f ⊆ c) (hpa : pa = s.physData (s.gpr f)) (he : pa % 2 = 0)
    (hp : Machine.isPlainWord s pa = true) (hc : [pa, pa + 1] ⊆ c) (unclear : Bool) (r : Flagged 16) :
    Yields (finishIndIncW u f unclear r) (Only s c) := by
  subst hpa
  rw [Machine.finishIndIncW, h.rwAddress hb, ok_bind, h.memReadGpr hb, ok_bind, hg]
  dsimp only
  rw [h.physData]
  exact (h.memWriteW he hp hc _).bind fun t ht =>
    ((ht.afterIncrement _ _ _).writeGpr hb hf _).map fun v hv => hv.setFlagsFor _ _

theorem finishIndIncB (hf : s.wordBytes f ⊆ c) (hpa : pa = s.physData (s.gpr f)) (hp : Machine.isPlain s pa = true)
    (hc : pa ∈ c) (unclear : Bool) (r : Flagged 8) : Yields (finishIndIncB u f unclear r) (Only s c) := by
  subst hpa
  rw [Machine.finishIndIncB, h.rwAddress hb, ok_bind, h.memReadGpr hb, ok_bind, hg]
  dsimp only
  rw [h.physData]
  exact (h.memWriteB hp hc _).bind fun t ht =>
    ((ht.afterIncrement _ _ _).writeGpr hb hf _).map fun v hv => hv.setFlagsFor _ _

end Pointer

end Only

/-! ### The templates on every overlap -/

section Templates

variable {s : State} {c : List Nat}

theorem moveW_only {c' : List Nat} {source : Res (Word × State)} {put : State → Flagged 16 → Res State}
    (hs : Yields source (fun p => Only s c' p.2)) (hput : ∀ u r, Only s c' u → Yields (put u r) (Only s c)) :
    Yields (moveW source put) (Only s c) :=
  hs.bind fun ⟨_, _⟩ hu => hput _ _ hu

theorem moveB_only {c' : List Nat} {source : Res (Byte × State)} {put : State → Flagged 8 → Res State}
    (hs : Yields source (fun p => Only s c' p.2)) (hput : ∀ u r, Only s c' u → Yields (put u r) (Only s c)) :
    Yields (moveB source put) (Only s c) :=
  hs.bind fun ⟨_, _⟩ hu => hput _ _ hu

variable (hb : bankReady s = true)
include hb

theorem aluW_only {source : Res (Word × State)} {n : Nib} (hc : s.wordBytes n ⊆ c)
    (hs : Yields source (fun p => Only s c p.2)) (op : AluOp) (before : Flags) :
    Yields (aluW op before source (rwAddress · n)) (Only s c) := by
  refine hs.bind fun ⟨b, u⟩ hu => ?_
  dsimp only
  rw [hu.rwAddress hb, ok_bind, hu.memReadGpr hb, ok_bind]
  exact hu.finishW (gprAddress_even (cpLegal_of_bank hb) n) (plainWord_gpr hb n) hc _

theorem aluB_only {source : Res (Byte × State)} {n : Nib} (hc : s.gprByteAddress n ∈ c)
    (hs : Yields source (fun p => Only s c p.2)) (op : AluOp) (before : Flags) :
    Yields (aluB op before source (rbAddress · n)) (Only s c) := by
  refine hs.bind fun ⟨b, u⟩ hu => ?_
  dsimp only
  rw [hu.rbAddress hb, ok_bind, ← hu.gprByteAddress, memReadB_gpr (hu.bank hb), ok_bind, hu.gprByteAddress]
  exact hu.finishB (plain_gprByte hb n) hc _

theorem compareW_only {source : Res (Word × State)} (hs : Yields source (fun p => Only s c p.2)) (n : Nib) :
    Yields (compareW source (rwAddress · n)) (Only s c) :=
  hs.bind fun ⟨_, _⟩ hu => (yields_of_ok (readRw_eq (hu.bank hb) n)).map fun _ _ => hu.setFlags _

theorem compareB_only {source : Res (Byte × State)} (hs : Yields source (fun p => Only s c p.2)) (n : Nib) :
    Yields (compareB source (rbAddress · n)) (Only s c) :=
  hs.bind fun ⟨_, _⟩ hu => (yields_of_ok (readRb_eq (hu.bank hb) n)).map fun _ _ => hu.setFlags _

section ReadInc

variable {n : Nib} {i : BitVec 2} (hr : canReadW s (s.physData (s.gpr (pointerOf i))) = true)
  (hi : s.wordBytes (pointerOf i) ⊆ c)
include hr hi

theorem aluRwIndInc_only (hn : s.wordBytes n ⊆ c) (op : AluOp) : Yields (aluRwIndInc op s n i) (Only s c) := by
  unfold aluRwIndInc
  split
  · next same =>
    subst same
    exact (readIndIncW_only hb hr hi).bind fun ⟨b, t⟩ ht => ht.drawWord.drawWord.toRw hb hi _
  · exact aluW_only hb hn (readIndIncW_only hb hr hi) op s.flags

theorem compareRwIndInc_only : Yields (compareRwIndInc s n i) (Only s c) := by
  unfold compareRwIndInc
  split
  · next same =>
    subst same
    exact (readIndIncW_only hb hr hi).map fun ⟨b, t⟩ ht => ht.drawWord.setFlags _
  · exact compareW_only hb (readIndIncW_only hb hr hi) n

end ReadInc

section ReadIncByte

variable {n : Nib} {i : BitVec 2} (hr : canReadB s (s.physData (s.gpr (pointerOf i))) = true)
  (hi : s.wordBytes (pointerOf i) ⊆ c)
include hr hi

theorem aluRbIndInc_only (hn : s.gprByteAddress n ∈ c) (op : AluOp) : Yields (aluRbIndInc op s n i) (Only s c) := by
  unfold aluRbIndInc
  split
  · exact (readIndIncB_only hb hr hi).bind fun ⟨b, t⟩ ht => ht.drawByte.drawWord.toRw hb hi _
  · exact aluB_only hb hn (readIndIncB_only hb hr hi) op s.flags

theorem compareRbIndInc_only : Yields (compareRbIndInc s n i) (Only s c) := by
  unfold compareRbIndInc
  split
  · exact (readIndIncB_only hb hr hi).map fun ⟨b, t⟩ ht => ht.drawByte.setFlags _
  · exact compareB_only hb (readIndIncB_only hb hr hi) n

end ReadIncByte

/-! #### Moves -/

theorem moveRwIndInc_only {n m : Nib} (hr : canReadW s (s.physData (s.gpr m)) = true) (hn : s.wordBytes n ⊆ c)
    (hm : s.wordBytes m ⊆ c) : Yields (moveRwIndInc s n m) (Only s c) := by
  unfold moveRwIndInc
  split
  · exact (readIndIncW_only hb hr hm).bind fun ⟨v, t⟩ ht => ht.drawWord.toRw hb hn _
  · exact moveW_only (readIndIncW_only hb hr hm) fun u r hu => hu.toRw hb hn r

theorem moveRbIndInc_only {n m : Nib} (hr : canReadB s (s.physData (s.gpr m)) = true) (hn : s.gprByteAddress n ∈ c)
    (hm : s.wordBytes m ⊆ c) : Yields (moveRbIndInc s n m) (Only s c) := by
  unfold moveRbIndInc
  split
  · exact (readIndIncB_only hb hr hm).bind fun ⟨v, t⟩ ht => ht.drawWord.toRw hb hm _
  · exact moveB_only (readIndIncB_only hb hr hm) fun u r hu => hu.toRb hb hn r

theorem fromRw_only (n : Nib) : Yields (fromRw s n) (fun p => Only s c p.2) := ⟨_, fromRw_eq hb n, .refl s c⟩

theorem fromRb_only (n : Nib) : Yields (fromRb s n) (fun p => Only s c p.2) := ⟨_, fromRb_eq hb n, .refl s c⟩

section StoreWord

variable {pa : Nat} (he : pa % 2 = 0) (hp : isPlainWord s pa = true) (hc : [pa, pa + 1] ⊆ c)
include he hp hc

/-- The pointer is read after a source that writes nothing. -/
theorem moveToIndW_only {source : Res (Word × State)} (hs : Yields source (fun p => Only s [] p.2)) {f : Nib}
    (hpa : pa = s.physData (s.gpr f)) : Yields (moveW source (finishIndW · f)) (Only s c) :=
  moveW_only hs fun _ r hu => (hu.mono (List.nil_subset c)).finishIndW hb (hu.gpr_of_nil hb f) hpa he hp hc r

theorem moveToDispW_only {source : Res (Word × State)} (hs : Yields source (fun p => Only s [] p.2)) {f : Nib} {d : Word}
    (hpa : pa = s.physData (s.gpr f + d)) : Yields (moveW source (finishDispW · f d)) (Only s c) :=
  moveW_only hs fun _ r hu => (hu.mono (List.nil_subset c)).finishDispW hb (hu.gpr_of_nil hb f) hpa he hp hc r

theorem movePreDecRw_only {m n : Nib} (hm : s.wordBytes m ⊆ c) (hpa : pa = s.physData (s.gpr m - 2)) :
    Yields (movePreDecRw s m n) (Only s c) := by
  have put (u : State) (r : Flagged 16) (hu : Only s [] u) : Yields (finishPreDecW u m r) (Only s c) :=
    (hu.mono (List.nil_subset c)).finishPreDecW hb (hu.gpr_of_nil hb m) hm hpa he hp hc r
  unfold movePreDecRw
  split
  · exact moveW_only ⟨s.drawWord, rfl, (Only.refl s []).drawWord⟩ put
  · exact moveW_only (fromRw_only hb n) put

theorem moveIndIncIndW_only {n m : Nib} (hr : canReadW s (s.physData (s.gpr m)) = true) (hn : s.wordBytes n ⊆ c)
    (hpa : pa = s.physData (s.gpr n)) : Yields (moveIndIncIndW s n m) (Only s c) :=
  moveW_only (readIndW_only hb hr) fun _ r hu =>
    (hu.mono (List.nil_subset c)).finishIndIncW hb (hu.gpr_of_nil hb n) hn hpa he hp hc _ r

theorem moveIndIndIncW_only {n m : Nib} (hnm : n ≠ m) (hr : canReadW s (s.physData (s.gpr m)) = true)
    (hm : s.wordBytes m ⊆ c) (hpa : pa = s.physData (s.gpr n)) : Yields (moveIndIndIncW s n m) (Only s c) := by
  rw [moveIndIndIncW_other hnm]
  exact moveW_only (readIndIncW_only hb hr (List.Subset.refl _)) fun _ r hu =>
    (hu.mono hm).finishIndW hb (hu.gpr_of_other hb hnm) hpa he hp hc r

end StoreWord

section StoreByte

variable {pa : Nat} (hp : isPlain s pa = true) (hc : pa ∈ c)
include hp hc

/-- The pointer is read after a source that writes nothing. -/
theorem moveToIndB_only {source : Res (Byte × State)} (hs : Yields source (fun p => Only s [] p.2)) {f : Nib}
    (hpa : pa = s.physData (s.gpr f)) : Yields (moveB source (finishIndB · f)) (Only s c) :=
  moveB_only hs fun _ r hu => (hu.mono (List.nil_subset c)).finishIndB hb (hu.gpr_of_nil hb f) hpa hp hc r

theorem moveToDispB_only {source : Res (Byte × State)} (hs : Yields source (fun p => Only s [] p.2)) {f : Nib} {d : Word}
    (hpa : pa = s.physData (s.gpr f + d)) : Yields (moveB source (finishDispB · f d)) (Only s c) :=
  moveB_only hs fun _ r hu => (hu.mono (List.nil_subset c)).finishDispB hb (hu.gpr_of_nil hb f) hpa hp hc r

theorem movePreDecRb_only {m n : Nib} (hm : s.wordBytes m ⊆ c) (hpa : pa = s.physData (s.gpr m - 1)) :
    Yields (movePreDecRb s m n) (Only s c) := by
  have put (u : State) (r : Flagged 8) (hu : Only s [] u) : Yields (finishPreDecB u m r) (Only s c) :=
    (hu.mono (List.nil_subset c)).finishPreDecB hb (hu.gpr_of_nil hb m) hm hpa hp hc r
  unfold movePreDecRb
  split
  · exact moveB_only ⟨s.drawByte, rfl, (Only.refl s []).drawByte⟩ put
  · exact moveB_only (fromRb_only hb n) put

theorem moveIndIncIndB_only {n m : Nib} (hr : canReadB s (s.physData (s.gpr m)) = true) (hn : s.wordBytes n ⊆ c)
    (hpa : pa = s.physData (s.gpr n)) : Yields (moveIndIncIndB s n m) (Only s c) :=
  moveB_only (readIndB_only hb hr) fun _ r hu =>
    (hu.mono (List.nil_subset c)).finishIndIncB hb (hu.gpr_of_nil hb n) hn hpa hp hc _ r

theorem moveIndIndIncB_only {n m : Nib} (hnm : n ≠ m) (hr : canReadB s (s.physData (s.gpr m)) = true)
    (hm : s.wordBytes m ⊆ c) (hpa : pa = s.physData (s.gpr n)) : Yields (moveIndIndIncB s n m) (Only s c) := by
  rw [moveIndIndIncB_other hnm]
  exact moveB_only (readIndIncB_only hb hr (List.Subset.refl _)) fun _ r hu =>
    (hu.mono hm).finishIndB hb (hu.gpr_of_other hb hnm) hpa hp hc r

end StoreByte

/-- `[Rwn], [Rwn+]`: a free bit chooses between the address before the increment and the one after it. -/
theorem moveIndIndIncW_same {n : Nib} {pa qa : Nat} (hpa : pa = s.physData (s.gpr n))
    (hqa : qa = s.physData (s.gpr n + 2)) (he : pa % 2 = 0) (hp : isPlainWord s pa = true) (he' : qa % 2 = 0)
    (hp' : isPlainWord s qa = true) : Yields (moveIndIndIncW s n n) (fun t =>
      Only s (s.wordBytes n ++ [pa, pa + 1]) t ∨ Only s (s.wordBytes n ++ [qa, qa + 1]) t) := by
  subst hpa hqa
  rw [moveIndIndIncW, if_pos rfl, readRw_eq hb, ok_bind]
  refine (readIndIncW_only hb (canReadW_plain he hp) (List.Subset.refl _)).bind fun ⟨v, t⟩ ht => ?_
  change Yields (finishThroughW t.drawBit.2 _ (t.drawBit.2.physData (if t.drawBit.1 then _ else _)) _) _
  rw [ht.drawBit.physData]
  cases t.drawBit.1 with
  | true =>
    exact ((ht.drawBit.mono (List.subset_append_left _ _)).finishThroughW he hp (List.subset_append_right _ _) _ _).mono
      fun _ => .inl
  | false =>
    exact ((ht.drawBit.mono (List.subset_append_left _ _)).finishThroughW he' hp' (List.subset_append_right _ _) _ _).mono
      fun _ => .inr

theorem moveIndIndIncB_same {n : Nib} {pa qa : Nat} (hpa : pa = s.physData (s.gpr n))
    (hqa : qa = s.physData (s.gpr n + 1)) (hp : isPlain s pa = true) (hp' : isPlain s qa = true) :
    Yields (moveIndIndIncB s n n) (fun t => Only s (s.wordBytes n ++ [pa]) t ∨ Only s (s.wordBytes n ++ [qa]) t) := by
  subst hpa hqa
  rw [moveIndIndIncB, if_pos rfl, readRw_eq hb, ok_bind]
  refine (readIndIncB_only hb (accessible_of_plain hp) (List.Subset.refl _)).bind fun ⟨v, t⟩ ht => ?_
  change Yields (finishThroughB t.drawBit.2 _ (t.drawBit.2.physData (if t.drawBit.1 then _ else _)) _) _
  rw [ht.drawBit.physData]
  cases t.drawBit.1 with
  | true =>
    exact ((ht.drawBit.mono (List.subset_append_left _ _)).finishThroughB hp (by simp) _ _).mono fun _ => .inl
  | false =>
    exact ((ht.drawBit.mono (List.subset_append_left _ _)).finishThroughB hp' (by simp) _ _).mono fun _ => .inr

end Templates

/-! ### The instructions on every overlap -/

/-- After an instruction that does not branch: `Only`, and IP at the following instruction. -/
def OnlyAfter (length : Nat) (s : State) (changed : List Nat) (t : State) : Prop :=
  t = { s with ip := s.ipNext length, psw := t.psw, mem := t.mem, stored := t.stored, freeCount := t.freeCount } ∧
    SameSystemBits s t ∧ ∀ a, a ∉ changed → t.mem.read a = s.mem.read a

theorem Only.goto {s t : State} {c : List Nat} (h : Only s c t) (length : Nat) :
    OnlyAfter length s c (t.goto (s.ipNext length)) :=
  ⟨congrArg (fun x : State => x.goto (s.ipNext length)) h.frame, h.system, h.memory⟩

theorem completes_of_yields {s : State} {r : Res State} {P : State → Prop} (h : Yields r P) (length : Nat) :
    Completes (complete length s r) (fun t => ∃ u, P u ∧ t = u.goto (s.ipNext length)) := by
  obtain ⟨u, rfl, hu⟩ := h
  exact ⟨_, complete_ok length s u, u, hu, rfl⟩

theorem completes_only {s : State} {r : Res State} {c : List Nat} (h : Yields r (Only s c)) (length : Nat) :
    Completes (complete length s r) (OnlyAfter length s c) :=
  (completes_of_yields h length).mono fun _ ⟨_, hu, ht⟩ => ht ▸ hu.goto length

theorem completes_only_or {s : State} {r : Res State} {c d : List Nat} (h : Yields r (fun t => Only s c t ∨ Only s d t))
    (length : Nat) : Completes (complete length s r) (fun t => OnlyAfter length s c t ∨ OnlyAfter length s d t) :=
  (completes_of_yields h length).mono fun _ ⟨_, hu, ht⟩ => ht ▸ hu.imp (·.goto length) (·.goto length)

section Alu

variable {s : State} (hb : bankReady s = true) {n : Nib} {p : BitVec 2}
include hb

theorem IsAluW.aliases {op : AluOp} {rwRw : Nib → Nib → Instr} {rwInd rwIndInc : Nib → BitVec 2 → Instr}
    {rwData3 : Nib → BitVec 3 → Instr} {regData16 regMem : Byte → Word → Instr} {memReg : Word → Byte → Instr}
    (i : IsAluW op rwRw rwInd rwIndInc rwData3 regData16 regMem memReg)
    (hr : canReadW s (s.physData (s.gpr (pointerOf p))) = true) :
    Completes (exec (rwInd n p) s) (OnlyAfter 2 s (s.wordBytes n)) ∧
      Completes (exec (rwIndInc n p) s) (OnlyAfter 2 s (s.wordBytes n ++ s.wordBytes (pointerOf p))) := by
  rw [i.rwInd, i.rwIndInc]
  exact ⟨completes_only (aluW_only hb (List.Subset.refl _) (readIndW_only hb hr) op s.flags) 2,
    completes_only (aluRwIndInc_only hb hr (List.subset_append_right _ _) (List.subset_append_left _ _) op) 2⟩

theorem IsAluB.aliases {op : State → AluOp} {rbRb : Nib → Nib → Instr} {rbInd rbIndInc : Nib → BitVec 2 → Instr}
    {rbData3 : Nib → BitVec 3 → Instr} {regData8 : Byte → Byte → Instr} {regMem : Byte → Word → Instr}
    {memReg : Word → Byte → Instr} (i : IsAluB op rbRb rbInd rbIndInc rbData3 regData8 regMem memReg)
    (hr : canReadB s (s.physData (s.gpr (pointerOf p))) = true) :
    Completes (exec (rbInd n p) s) (OnlyAfter 2 s [s.gprByteAddress n]) ∧
      Completes (exec (rbIndInc n p) s) (OnlyAfter 2 s ([s.gprByteAddress n] ++ s.wordBytes (pointerOf p))) := by
  rw [i.rbInd, i.rbIndInc]
  exact ⟨completes_only (aluB_only hb (by simp) (readIndB_only hb hr) (op s) s.flags) 2,
    completes_only (aluRbIndInc_only hb hr (List.subset_append_right _ _) (by simp) (op s)) 2⟩

end Alu
end Sys2Proof.Machine

namespace Sys2Proof.Proofs
open Sys2Proof.Machine

/-- Settles O21: every template writes within the listed bytes, whatever is drawn. -/
theorem aliasedPointersRunOnFreeValues : Obligations.AliasedPointersRunOnFreeValues := by
  unfold Obligations.AliasedPointersRunOnFreeValues
  intro s hb only word byte takesW takesB
  have left {a b : List Nat} : a ⊆ a ++ b := List.subset_append_left a b
  have right {a b : List Nat} : b ⊆ a ++ b := List.subset_append_right a b
  have whole {a : List Nat} : a ⊆ a := List.Subset.refl a
  refine ⟨fun n i hr => ?aluW, fun n m hr => ?loadW, fun n m c hr => ?loadDispW, fun m n pa hpa ⟨he, hp⟩ => ?storeW,
    fun m n pa hpa ⟨he, hp⟩ => ?preDecW, fun m c n pa hpa ⟨he, hp⟩ => ?storeDispW, fun n mem pa hpa hr ⟨he, hp⟩ => ?indMemW,
    fun mem n pa hpa hr ⟨he, hp⟩ => ?memIndW, fun n m pa hpa hr ⟨he, hp⟩ => ?indIndW,
    fun n pa qa hpa hqa ⟨he, hp⟩ ⟨he', hp'⟩ => ?sameW, fun n i hr => ?aluB, fun n m hr => ?loadB, fun n m c hr => ?loadDispB,
    fun m n pa hpa hp => ?storeB, fun m n pa hpa hp => ?preDecB, fun m c n pa hpa hp => ?storeDispB,
    fun n mem pa hpa hr hp => ?indMemB, fun mem n pa hpa hr hp => ?memIndB, fun n m pa hpa hr hp => ?indIndB,
    fun n pa qa hpa hqa hp hp' => ?sameB⟩
  case aluW =>
    obtain ⟨add, addInc⟩ := isAluW_add.aliases hb (n := n) hr
    obtain ⟨addc, addcInc⟩ := isAluW_addc.aliases hb (n := n) hr
    obtain ⟨sub, subInc⟩ := isAluW_sub.aliases hb (n := n) hr
    obtain ⟨subc, subcInc⟩ := isAluW_subc.aliases hb (n := n) hr
    obtain ⟨and, andInc⟩ := isAluW_and.aliases hb (n := n) hr
    obtain ⟨or, orInc⟩ := isAluW_or.aliases hb (n := n) hr
    obtain ⟨xor, xorInc⟩ := isAluW_xor.aliases hb (n := n) hr
    exact ⟨add, addInc, addc, addcInc, sub, subInc, subc, subcInc, and, andInc, or, orInc, xor, xorInc,
      completes_only (compareW_only hb (readIndW_only hb hr) n) 2,
      completes_only (compareRwIndInc_only hb hr whole) 2⟩
  case loadW =>
    exact ⟨completes_only (moveW_only (readIndW_only hb hr) fun _ r hu => hu.toRw hb whole r) 2,
      completes_only (moveRwIndInc_only hb hr left right) 2⟩
  case loadDispW => exact completes_only (moveW_only (readDispW_only hb hr) fun _ r hu => hu.toRw hb whole r) 4
  case storeW => exact completes_only (moveToIndW_only hb he hp whole (fromRw_only hb n) hpa) 2
  case preDecW => exact completes_only (movePreDecRw_only hb he hp right left hpa) 2
  case storeDispW => exact completes_only (moveToDispW_only hb he hp whole (fromRw_only hb n) hpa) 4
  case indMemW => exact completes_only (moveToIndW_only hb he hp whole ⟨_, fromMemW_eq hr, .refl s []⟩ hpa) 4
  case memIndW =>
    subst hpa
    exact completes_only (moveW_only (readIndW_only hb hr) fun _ r hu => hu.toMem he hp whole r) 4
  case indIndW =>
    exact ⟨completes_only (moveToIndW_only hb he hp whole (readIndW_only hb hr) hpa) 2,
      completes_only (moveIndIncIndW_only hb he hp right hr left hpa) 2,
      fun hnm => completes_only (moveIndIndIncW_only hb he hp right hnm hr left hpa) 2⟩
  case sameW => exact completes_only_or (moveIndIndIncW_same hb hpa hqa he hp he' hp') 2
  case aluB =>
    obtain ⟨add, addInc⟩ := isAluB_add.aliases hb (n := n) hr
    obtain ⟨addc, addcInc⟩ := isAluB_addc.aliases hb (n := n) hr
    obtain ⟨sub, subInc⟩ := isAluB_sub.aliases hb (n := n) hr
    obtain ⟨subc, subcInc⟩ := isAluB_subc.aliases hb (n := n) hr
    obtain ⟨and, andInc⟩ := isAluB_and.aliases hb (n := n) hr
    obtain ⟨or, orInc⟩ := isAluB_or.aliases hb (n := n) hr
    obtain ⟨xor, xorInc⟩ := isAluB_xor.aliases hb (n := n) hr
    exact ⟨add, addInc, addc, addcInc, sub, subInc, subc, subcInc, and, andInc, or, orInc, xor, xorInc,
      completes_only (compareB_only hb (readIndB_only hb hr) n) 2,
      completes_only (compareRbIndInc_only hb hr whole) 2⟩
  case loadB =>
    exact ⟨completes_only (moveB_only (readIndB_only hb hr) fun _ r hu => hu.toRb hb (List.mem_singleton_self _) r) 2,
      completes_only (moveRbIndInc_only hb hr (left (List.mem_singleton_self _)) right) 2⟩
  case loadDispB =>
    exact completes_only (moveB_only (readDispB_only hb hr) fun _ r hu => hu.toRb hb (List.mem_singleton_self _) r) 4
  case storeB => exact completes_only (moveToIndB_only hb hp (List.mem_singleton_self _) (fromRb_only hb n) hpa) 2
  case preDecB => exact completes_only (movePreDecRb_only hb hp (right (List.mem_singleton_self _)) left hpa) 2
  case storeDispB => exact completes_only (moveToDispB_only hb hp (List.mem_singleton_self _) (fromRb_only hb n) hpa) 4
  case indMemB =>
    exact completes_only (moveToIndB_only hb hp (List.mem_singleton_self _) ⟨_, fromMemB_eq hr, .refl s []⟩ hpa) 4
  case memIndB =>
    subst hpa
    exact completes_only (moveB_only (readIndB_only hb hr) fun _ r hu => hu.toMemB hp (List.mem_singleton_self _) r) 4
  case indIndB =>
    exact ⟨completes_only (moveToIndB_only hb hp (List.mem_singleton_self _) (readIndB_only hb hr) hpa) 2,
      completes_only (moveIndIncIndB_only hb hp (right (List.mem_singleton_self _)) hr left hpa) 2,
      fun hnm => completes_only (moveIndIndIncB_only hb hp (right (List.mem_singleton_self _)) hnm hr left hpa) 2⟩
  case sameB => exact completes_only_or (moveIndIndIncB_same hb hpa hqa hp hp') 2

end Sys2Proof.Proofs
end
